-- ==== Sys2Proof/Word.lean ====
section
/-! DEFINITION. The two word types of the hardware: an 8-bit data byte and a 16-bit address or pair (spec R5). -/

namespace Sys2Proof

/-- A data byte, 8 bits (R5). -/
abbrev Byte := BitVec 8

/-- A 16-bit word: an address, `SP`, `PC` or a register pair (R5). -/
abbrev Word := BitVec 16

end Sys2Proof
end

