-- ==== Sys2Proof/Config.lean ====
section
/-! DEFINITION. What one machine fixes and the spec leaves to its builder: the free values (constants
without a body), the parameters the spec asks a model to take as arguments (R7, R421), and the source's
fixed figures (R6, R433). -/

namespace Sys2Proof.Config

/-- `BIOS_IMAGE` (R410, D12): byte `i` of the boot ROM. No source gives the bytes, so this is a FREE VALUE
(log 2): it has no body and no proof can depend on what it is. -/
opaque biosByte : Nat → Byte

/-- `SHADE_RGBA` (R366, D29): the RGBA value of a shade 0 to 3. No source gives the colours: a FREE VALUE
(log 3). -/
opaque shadeRgba : BitVec 2 → BitVec 32

/-- `APU_EFFECT` (R371, D30): the byte at `0xFF10 + i` after the APU's `run`-th call with `units` APU units, `bus`
being what every address reads as when the call begins. The APU is an opaque agent: a FREE VALUE (log 4). -/
opaque apuByte : (run : Nat) → (units : Nat) → (bus : Word → Byte) → (i : Nat) → Byte

/-- The three meanings of `STOP` the spec allows (parameter `STOP_BEHAVIOUR`, R260, D9). -/
inductive StopBehaviour where
  /-- raise `InstructionNotImplemented(0x10)`: the spec's default -/
  | refuse
  /-- a two-byte `NOP` -/
  | nop2
  /-- wait, like `HALT`, until `IF` bit 4 (joypad) is set -/
  | waitJoypad
deriving DecidableEq, Repr

/-- What an MBC1 bank index beyond the last bank does (parameter `MBC1_BANK_OOR`, R92, D35). -/
inductive BankOor where
  /-- the write that sets it ends the run: the spec's default -/
  | fault
  /-- the bank number counts modulo the number of banks. PRESUMED (log 23) -/
  | mask
deriving DecidableEq, Repr

/-- One row of `STEP_PARTITION` (R313, D4): how the Commands of one opcode are cut. -/
structure CutRow where
  /-- is the opcode the byte after 0xCB? -/
  prefixed : Bool
  opcode : Byte
  /-- the costs of the micro-ops that come before the one with the instruction's action -/
  lead : List Nat
  /-- the same for the continuation of a taken conditional transfer -/
  takenLead : List Nat
deriving DecidableEq, Repr

/-- One row of a cost table that replaces the spec's (R432). -/
structure CostRow where
  /-- is the opcode the byte after 0xCB? -/
  prefixed : Bool
  opcode : Byte
  /-- M-cycles, the not-taken cost of a conditional transfer -/
  cost : Nat
  /-- taken minus not-taken cost -/
  takenExtra : Nat
deriving DecidableEq, Repr

/-- The parameters of the machine that a model takes as arguments (R7, R421, R432). No step changes them. -/
structure Params where
  /-- `STOP_BEHAVIOUR` -/
  stop : StopBehaviour
  /-- `TIMER_SLICE_BUDGET`: timer units per slice, slice after slice, from the front again when used up -/
  timerBudgets : List Nat
  /-- `APU_SLICE_BUDGET`: APU units per slice, in the same form -/
  apuBudgets : List Nat
  /-- `MBC1_BANK_OOR` -/
  bankOor : BankOor
  /-- `STEP_PARTITION`: the rows that depart from the cut of D4 -/
  partition : List CutRow
  /-- the rows that depart from the spec's cost table (R142, R143, R432) -/
  costs : List CostRow
deriving DecidableEq, Repr

/-- The parameters of the machine right after reset: every default of R7, with the cut of D4 (R313) and the spec's
cost table (R432). -/
def resetParams : Params :=
  { stop := .refuse, timerBudgets := [28], apuBudgets := [28], bankOor := .fault, partition := [], costs := [] }

/-- The budget of a slice, from the list of a parameter: `[28]` gives 28 always, `[28, 29]` the carried half unit
(R421). -/
def budgetAt (budgets : List Nat) (slice : Nat) : Nat := budgets.getD (slice % budgets.length) 28

/-- CPU M-cycles per slice, 456 / 4 (R420). -/
def cpuBudget : Nat := 114

/-- DMA cycles per slice, 456 / 4 (R420). -/
def dmaBudget : Nat := 114

/-- PPU cycles per slice, 456 / 2 (R420). -/
def ppuBudget : Nat := 228

/-- Slices per frame, 70224 / 456 (R420). -/
def slicesPerFrame : Nat := 154

end Sys2Proof.Config
end

