-- ==== Sys2Proof/Syntax.lean ====
section
/-! DEFINITION. The instructions as data: one constructor for every row of spec/opcode_table.json (R142, R143),
and the small enumerations their encoding fields name (R132 to R137). -/

namespace Sys2Proof

/-- The 8-bit registers of the 3-bit register field (R20, R132). -/
inductive Reg8 where
  | b | c | d | e | h | l | a
deriving DecidableEq, Repr

/-- An operand of the 3-bit register field (R132): a register, or the memory byte at `HL`. -/
inductive Opnd8 where
  | reg (r : Reg8)
  | mhl
deriving DecidableEq, Repr

/-- The pair field `rr` (R133). -/
inductive Pair where
  | bc | de | hl | sp
deriving DecidableEq, Repr

/-- The pair field `qq` of `PUSH` and `POP` (R134). -/
inductive StackPair where
  | bc | de | hl | af
deriving DecidableEq, Repr

/-- The condition field `cc` (R135). -/
inductive Cond where
  | nz | z | nc | c
deriving DecidableEq, Repr

/-- A 3-bit field value: `y`, `z`, a bit number or an `RST` target (R133, R136). -/
inductive Oct where
  | o0 | o1 | o2 | o3 | o4 | o5 | o6 | o7
deriving DecidableEq, Repr

/-- The accumulator operations, by field value `y` (R137). -/
inductive AluOp where
  | add | adc | sub | sbc | and | xor | or | cp
deriving DecidableEq, Repr

/-- The rotates and shifts of the 0xCB page, by field value `y` (R290). -/
inductive RotOp where
  | rlc | rrc | rl | rr | sla | sra | swap | srl
deriving DecidableEq, Repr

/-- The instructions: the 244 mapped base bytes, the prefix byte, the eleven unmapped base bytes, and the 256
bytes of the 0xCB page. A name is the row's mnemonic in lower case; `mhl` is `(HL)`, `mhli` and `mhld` are
`(HL+)` and `(HL-)`, `mn`, `mnn`, `mc`, `mbc`, `mde` the other memory operands. -/
inductive Instr where
  -- base bytes with an operand
  | ld_bc_nn (nn : Word) | ld_b_n (n : Byte) | ld_mnn_sp (nn : Word) | ld_c_n (n : Byte) | stop (n : Byte) | ld_de_nn (nn : Word)
  | ld_d_n (n : Byte) | jr_e (e : Byte) | ld_e_n (n : Byte) | jr_nz_e (e : Byte) | ld_hl_nn (nn : Word) | ld_h_n (n : Byte)
  | jr_z_e (e : Byte) | ld_l_n (n : Byte) | jr_nc_e (e : Byte) | ld_sp_nn (nn : Word) | ld_mhl_n (n : Byte) | jr_c_e (e : Byte)
  | ld_a_n (n : Byte) | jp_nz_nn (nn : Word) | jp_nn (nn : Word) | call_nz_nn (nn : Word) | add_a_n (n : Byte) | jp_z_nn (nn : Word)
  | call_z_nn (nn : Word) | call_nn (nn : Word) | adc_a_n (n : Byte) | jp_nc_nn (nn : Word) | call_nc_nn (nn : Word) | sub_n (n : Byte)
  | jp_c_nn (nn : Word) | call_c_nn (nn : Word) | sbc_a_n (n : Byte) | ldh_mn_a (n : Byte) | and_n (n : Byte) | add_sp_e (e : Byte)
  | ld_mnn_a (nn : Word) | xor_n (n : Byte) | ldh_a_mn (n : Byte) | or_n (n : Byte) | ld_hl_sp_e (e : Byte) | ld_a_mnn (nn : Word)
  | cp_n (n : Byte)
  -- 0x00 to 0x0F without operand bytes
  | nop | ld_mbc_a | inc_bc | inc_b | dec_b | rlca | add_hl_bc | ld_a_mbc
  | dec_bc | inc_c | dec_c | rrca
  -- 0x10 to 0x1F without operand bytes
  | ld_mde_a | inc_de | inc_d | dec_d | rla | add_hl_de | ld_a_mde | dec_de
  | inc_e | dec_e | rra
  -- 0x20 to 0x2F without operand bytes
  | ld_mhli_a | inc_hl | inc_h | dec_h | daa | add_hl_hl | ld_a_mhli | dec_hl
  | inc_l | dec_l | cpl
  -- 0x30 to 0x3F without operand bytes
  | ld_mhld_a | inc_sp | inc_mhl | dec_mhl | scf | add_hl_sp | ld_a_mhld | dec_sp
  | inc_a | dec_a | ccf
  -- 0x40 to 0x4F without operand bytes
  | ld_b_b | ld_b_c | ld_b_d | ld_b_e | ld_b_h | ld_b_l | ld_b_mhl | ld_b_a
  | ld_c_b | ld_c_c | ld_c_d | ld_c_e | ld_c_h | ld_c_l | ld_c_mhl | ld_c_a
  -- 0x50 to 0x5F without operand bytes
  | ld_d_b | ld_d_c | ld_d_d | ld_d_e | ld_d_h | ld_d_l | ld_d_mhl | ld_d_a
  | ld_e_b | ld_e_c | ld_e_d | ld_e_e | ld_e_h | ld_e_l | ld_e_mhl | ld_e_a
  -- 0x60 to 0x6F without operand bytes
  | ld_h_b | ld_h_c | ld_h_d | ld_h_e | ld_h_h | ld_h_l | ld_h_mhl | ld_h_a
  | ld_l_b | ld_l_c | ld_l_d | ld_l_e | ld_l_h | ld_l_l | ld_l_mhl | ld_l_a
  -- 0x70 to 0x7F without operand bytes
  | ld_mhl_b | ld_mhl_c | ld_mhl_d | ld_mhl_e | ld_mhl_h | ld_mhl_l | halt | ld_mhl_a
  | ld_a_b | ld_a_c | ld_a_d | ld_a_e | ld_a_h | ld_a_l | ld_a_mhl | ld_a_a
  -- 0x80 to 0x8F without operand bytes
  | add_a_b | add_a_c | add_a_d | add_a_e | add_a_h | add_a_l | add_a_mhl | add_a_a
  | adc_a_b | adc_a_c | adc_a_d | adc_a_e | adc_a_h | adc_a_l | adc_a_mhl | adc_a_a
  -- 0x90 to 0x9F without operand bytes
  | sub_b | sub_c | sub_d | sub_e | sub_h | sub_l | sub_mhl | sub_a
  | sbc_a_b | sbc_a_c | sbc_a_d | sbc_a_e | sbc_a_h | sbc_a_l | sbc_a_mhl | sbc_a_a
  -- 0xA0 to 0xAF without operand bytes
  | and_b | and_c | and_d | and_e | and_h | and_l | and_mhl | and_a
  | xor_b | xor_c | xor_d | xor_e | xor_h | xor_l | xor_mhl | xor_a
  -- 0xB0 to 0xBF without operand bytes
  | or_b | or_c | or_d | or_e | or_h | or_l | or_mhl | or_a
  | cp_b | cp_c | cp_d | cp_e | cp_h | cp_l | cp_mhl | cp_a
  -- 0xC0 to 0xCF without operand bytes
  | ret_nz | pop_bc | push_bc | rst_00 | ret_z | ret | prefix_cb | rst_08
  -- 0xD0 to 0xDF without operand bytes
  | ret_nc | pop_de | illegal_d3 | push_de | rst_10 | ret_c | reti | illegal_db
  | illegal_dd | rst_18
  -- 0xE0 to 0xEF without operand bytes
  | pop_hl | ldh_mc_a | illegal_e3 | illegal_e4 | push_hl | rst_20 | jp_hl | illegal_eb
  | illegal_ec | illegal_ed | rst_28
  -- 0xF0 to 0xFF without operand bytes
  | pop_af | ldh_a_mc | di | illegal_f4 | push_af | rst_30 | ld_sp_hl | ei
  | illegal_fc | illegal_fd | rst_38
  -- 0xCB 0x00 to 0x07
  | rlc_b | rlc_c | rlc_d | rlc_e | rlc_h | rlc_l | rlc_mhl | rlc_a
  -- 0xCB 0x08 to 0x0F
  | rrc_b | rrc_c | rrc_d | rrc_e | rrc_h | rrc_l | rrc_mhl | rrc_a
  -- 0xCB 0x10 to 0x17
  | rl_b | rl_c | rl_d | rl_e | rl_h | rl_l | rl_mhl | rl_a
  -- 0xCB 0x18 to 0x1F
  | rr_b | rr_c | rr_d | rr_e | rr_h | rr_l | rr_mhl | rr_a
  -- 0xCB 0x20 to 0x27
  | sla_b | sla_c | sla_d | sla_e | sla_h | sla_l | sla_mhl | sla_a
  -- 0xCB 0x28 to 0x2F
  | sra_b | sra_c | sra_d | sra_e | sra_h | sra_l | sra_mhl | sra_a
  -- 0xCB 0x30 to 0x37
  | swap_b | swap_c | swap_d | swap_e | swap_h | swap_l | swap_mhl | swap_a
  -- 0xCB 0x38 to 0x3F
  | srl_b | srl_c | srl_d | srl_e | srl_h | srl_l | srl_mhl | srl_a
  -- 0xCB 0x40 to 0x47
  | bit_0_b | bit_0_c | bit_0_d | bit_0_e | bit_0_h | bit_0_l | bit_0_mhl | bit_0_a
  -- 0xCB 0x48 to 0x4F
  | bit_1_b | bit_1_c | bit_1_d | bit_1_e | bit_1_h | bit_1_l | bit_1_mhl | bit_1_a
  -- 0xCB 0x50 to 0x57
  | bit_2_b | bit_2_c | bit_2_d | bit_2_e | bit_2_h | bit_2_l | bit_2_mhl | bit_2_a
  -- 0xCB 0x58 to 0x5F
  | bit_3_b | bit_3_c | bit_3_d | bit_3_e | bit_3_h | bit_3_l | bit_3_mhl | bit_3_a
  -- 0xCB 0x60 to 0x67
  | bit_4_b | bit_4_c | bit_4_d | bit_4_e | bit_4_h | bit_4_l | bit_4_mhl | bit_4_a
  -- 0xCB 0x68 to 0x6F
  | bit_5_b | bit_5_c | bit_5_d | bit_5_e | bit_5_h | bit_5_l | bit_5_mhl | bit_5_a
  -- 0xCB 0x70 to 0x77
  | bit_6_b | bit_6_c | bit_6_d | bit_6_e | bit_6_h | bit_6_l | bit_6_mhl | bit_6_a
  -- 0xCB 0x78 to 0x7F
  | bit_7_b | bit_7_c | bit_7_d | bit_7_e | bit_7_h | bit_7_l | bit_7_mhl | bit_7_a
  -- 0xCB 0x80 to 0x87
  | res_0_b | res_0_c | res_0_d | res_0_e | res_0_h | res_0_l | res_0_mhl | res_0_a
  -- 0xCB 0x88 to 0x8F
  | res_1_b | res_1_c | res_1_d | res_1_e | res_1_h | res_1_l | res_1_mhl | res_1_a
  -- 0xCB 0x90 to 0x97
  | res_2_b | res_2_c | res_2_d | res_2_e | res_2_h | res_2_l | res_2_mhl | res_2_a
  -- 0xCB 0x98 to 0x9F
  | res_3_b | res_3_c | res_3_d | res_3_e | res_3_h | res_3_l | res_3_mhl | res_3_a
  -- 0xCB 0xA0 to 0xA7
  | res_4_b | res_4_c | res_4_d | res_4_e | res_4_h | res_4_l | res_4_mhl | res_4_a
  -- 0xCB 0xA8 to 0xAF
  | res_5_b | res_5_c | res_5_d | res_5_e | res_5_h | res_5_l | res_5_mhl | res_5_a
  -- 0xCB 0xB0 to 0xB7
  | res_6_b | res_6_c | res_6_d | res_6_e | res_6_h | res_6_l | res_6_mhl | res_6_a
  -- 0xCB 0xB8 to 0xBF
  | res_7_b | res_7_c | res_7_d | res_7_e | res_7_h | res_7_l | res_7_mhl | res_7_a
  -- 0xCB 0xC0 to 0xC7
  | set_0_b | set_0_c | set_0_d | set_0_e | set_0_h | set_0_l | set_0_mhl | set_0_a
  -- 0xCB 0xC8 to 0xCF
  | set_1_b | set_1_c | set_1_d | set_1_e | set_1_h | set_1_l | set_1_mhl | set_1_a
  -- 0xCB 0xD0 to 0xD7
  | set_2_b | set_2_c | set_2_d | set_2_e | set_2_h | set_2_l | set_2_mhl | set_2_a
  -- 0xCB 0xD8 to 0xDF
  | set_3_b | set_3_c | set_3_d | set_3_e | set_3_h | set_3_l | set_3_mhl | set_3_a
  -- 0xCB 0xE0 to 0xE7
  | set_4_b | set_4_c | set_4_d | set_4_e | set_4_h | set_4_l | set_4_mhl | set_4_a
  -- 0xCB 0xE8 to 0xEF
  | set_5_b | set_5_c | set_5_d | set_5_e | set_5_h | set_5_l | set_5_mhl | set_5_a
  -- 0xCB 0xF0 to 0xF7
  | set_6_b | set_6_c | set_6_d | set_6_e | set_6_h | set_6_l | set_6_mhl | set_6_a
  -- 0xCB 0xF8 to 0xFF
  | set_7_b | set_7_c | set_7_d | set_7_e | set_7_h | set_7_l | set_7_mhl | set_7_a
deriving DecidableEq, Repr

end Sys2Proof
end

