-- ==== Sys2Proof/Machine/State.lean ====
section
/-! DEFINITION. The state of the machine as plain data: CPU, bus and memories, cartridge, DMA sequencer,
Timer, PPU, Clock, and the host's boundary; the reasons a step can stop; the state right after reset. -/

namespace Sys2Proof.Machine

/-- The four flags (R23), held as booleans; the byte `F` is their view (R22, `Flags.toByte`). -/
structure Flags where
  z : Bool
  n : Bool
  h : Bool
  c : Bool
deriving DecidableEq, Repr

/-- A pending micro-op (R27, R311). The queue holds at most one of these, the front of its chain (R312). -/
inductive Command where
  /-- a micro-op of cost `n` that does nothing and returns `next`: only under a `STEP_PARTITION` finer than D4's -/
  | after (n : Nat) (next : Command)
  /-- the Command with the action of an instruction whose bytes are already fetched; under D4 queued by the fetch of
  a 0xCB byte alone (R138, R314) -/
  | exec (i : Instr)
  /-- continuation of a taken `JP cc,nn` (R272): cost 1 -/
  | jumpTo (cc : Cond) (target : Word)
  /-- continuation of a taken `JR cc,e` (R275): cost 1 -/
  | jumpBy (cc : Cond) (e : Byte)
  /-- continuation of a taken `CALL cc,nn` (R277): cost 3 -/
  | callTo (cc : Cond) (target : Word)
  /-- continuation of a taken `RET cc` (R279): cost 3 -/
  | ret (cc : Cond)
  /-- `HaltWait` (R259): cost 1 per turn -/
  | haltWait
  /-- the wait of `STOP` under `waitJoypad` (R260): cost 1 per turn -/
  | stopWait
deriving DecidableEq, Repr

/-- The CPU (R20 to R28). -/
structure Cpu where
  a : Byte
  b : Byte
  c : Byte
  d : Byte
  e : Byte
  h : Byte
  l : Byte
  /-- the flags (R23) -/
  f : Flags
  /-- stack pointer (R24) -/
  sp : Word
  /-- program counter (R25) -/
  pc : Word
  /-- interrupt master enable (R26) -/
  ime : Bool
  /-- the micro-op queue (R27), at most one Command -/
  queue : Option Command
  /-- the signed cycle credit in M-cycles (R28) -/
  credit : Int
deriving DecidableEq, Repr

/-- Which contract a Cartridge follows (R85, R86, R87, R93). -/
inductive CartKind where
  | mbc0
  | mbc1
  /-- unsupported MBC type: a cartridge without regions (R93) -/
  | inert
deriving DecidableEq, Repr

/-- A Cartridge (R44, R85 to R93). -/
structure Cartridge where
  kind : CartKind
  /-- `length(CART_ROM)` in bytes -/
  romLength : Nat
  /-- `CART_ROM` by offset; an offset not listed holds 0x00 -/
  rom : List Host.Cell
  /-- cartridge RAM by offset (bank `k` of 8 KB starts at `k * 0x2000`); not listed holds 0x00 -/
  ram : List Host.Cell
  /-- MBC1: the RAM block's `enabled` flag (R88) -/
  ramEnable : Bool
  /-- MBC1: low 5 bits of the ROM bank (R89) -/
  romLow : BitVec 5
  /-- MBC1: high 2 bits of the ROM bank (R90) -/
  hi2 : BitVec 2
  /-- MBC1: RAM bank (R90) -/
  ramBank : BitVec 2
  /-- MBC1: banking mode, false = ROM, true = RAM (R91) -/
  mode : Bool
deriving DecidableEq, Repr

/-- One DMA copy Command: cost 1, copy the byte at `src` to `dst` (R41, R97). -/
structure DmaCopy where
  src : Word
  dst : Word
deriving DecidableEq, Repr

/-- The Timer's hidden accumulators, in timer units (R42). -/
structure Timer where
  divAcc : Nat
  timaAcc : Nat
deriving DecidableEq, Repr

/-- The PPU's mode, the 2-bit field of `STAT` (R43, R353). -/
inductive PpuMode where
  /-- mode 0 -/
  | hBlank
  /-- mode 1 -/
  | vBlank
  /-- mode 2 -/
  | oamScan
  /-- mode 3 -/
  | pixelTransfer
deriving DecidableEq, Repr

/-- The PPU's next step (R43, R350). -/
inductive PpuStep where
  | oamScan
  | pixelTransfer
  | hBlank
  | vBlank
deriving DecidableEq, Repr

/-- The PPU (R43). -/
structure Ppu where
  /-- current line, 0 to 153 -/
  ly : Byte
  mode : PpuMode
  coincidence : Bool
  /-- copy of `LCDC[7]` at the last `LCDC` write -/
  lcdOn : Bool
  /-- the PPU's cycle credit, in PPU cycles -/
  credit : Int
  nextStep : PpuStep
  /-- the Bitmap, line by line, as shades; the RGBA pixel is `Config.shadeRgba` of the shade (log 3) -/
  bitmap : Vector (Vector (BitVec 2) 160) 144
  /-- how often `frameReady` has been raised (R366) -/
  framesReady : Nat
deriving DecidableEq, Repr

/-- Where the Clock is within a slice (R420): the unit whose `run` call is being made. -/
inductive Phase where
  /-- `CPU.run(114)` is about to be called: the next step adds the budget and makes the first turn -/
  | cpuCall
  /-- inside the loop of `CPU.run` -/
  | cpu
  /-- inside the loop of `MMU.run`, with this much DMA credit left -/
  | mmu (credit : Nat)
  /-- inside the loop of `PPU.run` -/
  | ppu
  /-- `APU.run` is about to be called -/
  | apu
  /-- inside `Timer.run`, with this many units left -/
  | timer (left : Nat)
deriving DecidableEq, Repr

/-- The Clock (R46, R420): its place in the slice and the slice number 0 to 153. -/
structure Clock where
  phase : Phase
  slice : Nat
deriving DecidableEq, Repr

/-- A host operation, legal only between frames (R425). -/
inductive HostAction where
  /-- write the joypad byte: `MemWriteQuiet(0xFF00, v)` -/
  | joypad (v : Byte)
  /-- request the Joypad interrupt: `IF <- IF | 0x10`, quiet -/
  | joypadRequest
  /-- build a Cartridge from ROM bytes (`romLength` of them; an offset not listed is 0x00), insert it and
  reset (R85, R400) -/
  | insert (romLength : Nat) (rom : List Host.Cell)
  /-- insert the present Cartridge again and reset (R401): its ROM, RAM and registers survive; with an empty slot the
  reset is made without a Cartridge, the state of R401's power-on with none: DESIGN CHOICE (log 25) -/
  | reinsert
  /-- insert the Cartridge at place `k` of those taken out before and reset (R401): its ROM, RAM and registers
  survive; where there is no such Cartridge nothing happens (log 24) -/
  | putBack (k : Nat)
deriving DecidableEq, Repr

/-- The whole machine. -/
structure State where
  cpu : Cpu
  /-- the writable RAM blocks and the catch-all with the I/O registers (R34, R35), by bus address; work RAM
  is kept at 0xC000 to 0xCFFF (R82). An address not listed holds 0x00, the value after reset (R50) -/
  mem : List Host.Cell
  /-- the BIOS buffer's bytes as supplied from outside; a byte not listed is `Config.biosByte` (log 2) -/
  bios : List Host.Cell
  /-- the BIOS region is in the MMU's region list (R34, R96) -/
  biosMapped : Bool
  /-- the Cartridge region (R34, R80), when one has been inserted -/
  cart : Option Cartridge
  /-- the Cartridges the host has taken out, oldest first, each as it was then (R103, R401; log 24) -/
  shelf : List Cartridge
  /-- the 48 bytes 0xFF10 to 0xFF3F, which the APU may write (sound registers and waveform RAM; R40, R371) -/
  sound : Vector Byte 48
  /-- the DMA queue (R41) -/
  dmaQueue : List DmaCopy
  timer : Timer
  ppu : Ppu
  /-- bytes emitted by the serial debug output, oldest first (R368) -/
  debugOut : List Byte
  /-- MBC-type bytes of unsupported cartridges reported to the host, oldest first (R93, R425) -/
  mbcReports : List Byte
  clock : Clock
  /-- how many `APU.run` calls have been made: the counter of the free value `Config.apuByte` (log 4) -/
  apuRuns : Nat
  /-- the machine's parameters (R7, R421, R432) -/
  params : Config.Params
  /-- `HOST_INPUT` (R7, R425): the operations the host performs at each coming frame boundary -/
  hostInput : List (List HostAction)
deriving DecidableEq, Repr

/-- The fatal errors (R330): no step follows one. -/
inductive Fault where
  /-- E1, raised by the meaning of the eleven unmapped base bytes (R331). Safe: the spec ends the run here. -/
  | instructionNotFound (opcode : Byte) (extended : Bool)
  /-- E2, raised by `STOP` when the parameter is `refuse` (R332). Safe: the spec ends the run here. -/
  | instructionNotImplemented (opcode : Byte)
  /-- E3, a bus access no region owns (R333). Raised by `State.writeByte`; unreachable, since the catch-all
  owns every address (R72). Safe. -/
  | addressOutOfRange (addr : Word)
  /-- An MBC1 bank index beyond the last bank (R92) where the parameter `MBC1_BANK_OOR` is `fault`, raised by
  `State.writeByte` on a write into 0x2000 to 0x7FFF of an MBC1 cartridge; carries the Cartridge as that write left it,
  whose indexes are `romIndex` and `ramBank`. Safe: the run ends. -/
  | bankOutOfRange (cart : Cartridge)
deriving DecidableEq, Repr

/-- Why a step has no meaning. -/
inductive Refusal where
  /-- an arm of `exec` without a meaning; no arm is left so. Safe. -/
  | notModelled (mnemonic : String)
  /-- a ROM image the spec's preconditions exclude (R85, V17), raised by the host operation `insert`; carries
  the image's length. Safe. -/
  | cartridgeRefused (romLength : Nat)
deriving DecidableEq, Repr

/-- What a step, or a part of one, answers. -/
abbrev Result := Host.Outcome State Fault Refusal

/-- The CPU after reset: everything zero, the queue empty (R50). -/
def Cpu.reset : Cpu :=
  { a := 0, b := 0, c := 0, d := 0, e := 0, h := 0, l := 0,
    f := { z := false, n := false, h := false, c := false },
    sp := 0, pc := 0, ime := false, queue := none, credit := 0 }

/-- The PPU after reset (R50): idle, at line 0, every pixel of shade 0 (D29, log 3). -/
def Ppu.reset : Ppu :=
  { ly := 0, mode := .hBlank, coincidence := false, lcdOn := false, credit := 0, nextStep := .oamScan,
    bitmap := Vector.replicate 144 (Vector.replicate 160 0), framesReady := 0 }

/-- The machine right after reset (R50, R401): power-on without a cartridge, the Clock at the first slice of
a frame. -/
def State.reset : State :=
  { cpu := Cpu.reset, mem := [], bios := [], biosMapped := true, cart := none, shelf := [],
    sound := Vector.replicate 48 0, dmaQueue := [], timer := { divAcc := 0, timaAcc := 0 },
    ppu := Ppu.reset, debugOut := [], mbcReports := [], clock := { phase := .cpuCall, slice := 0 },
    apuRuns := 0, params := Config.resetParams, hostInput := [] }

end Sys2Proof.Machine
end

