-- ==== Sys2Proof/Machine/Memory.lean ====
section
/-! DEFINITION. A byte store as a list of (address, byte) pairs in one canonical form: addresses strictly
rising, no byte equal to 0x00, which is what an unlisted address reads as (the value after reset, R50). -/

namespace Sys2Proof.Machine

/-- The byte at `a`; an unlisted address holds 0x00. -/
def Memory.read (m : List Host.Cell) (a : Nat) : Byte :=
  match m with
  | [] => 0
  | (k, v) :: rest => if k = a then v else Memory.read rest a

/-- Put the byte `v` at `a`, keeping the canonical form: writing 0x00 removes the entry. -/
def Memory.write (m : List Host.Cell) (a : Nat) (v : Byte) : List Host.Cell :=
  match m with
  | [] => if v = 0 then [] else [(a, v)]
  | (k, w) :: rest =>
    if k < a then (k, w) :: Memory.write rest a v
    else if k = a then (if v = 0 then rest else (a, v) :: rest)
    else if v = 0 then (k, w) :: rest else (a, v) :: (k, w) :: rest

/-- Addresses strictly rise. -/
def Memory.rising : List Host.Cell → Bool
  | [] => true
  | [_] => true
  | (a, _) :: (b, w) :: rest => decide (a < b) && Memory.rising ((b, w) :: rest)

/-- The canonical form: addresses strictly rise and no entry is 0x00. -/
def Memory.wf (m : List Host.Cell) : Bool := Memory.rising m && m.all (fun c => c.2 != 0)

/-- The BIOS buffer's byte `i`: the byte supplied from outside, else the free value (R410, log 2). -/
def Memory.biosRead (m : List Host.Cell) (i : Nat) : Byte :=
  match m with
  | [] => Config.biosByte i
  | (k, v) :: rest => if k = i then v else Memory.biosRead rest i

/-- Supply the BIOS byte `v` at `i` (from outside the machine: no step writes the BIOS). -/
def Memory.biosPut (m : List Host.Cell) (i : Nat) (v : Byte) : List Host.Cell :=
  match m with
  | [] => [(i, v)]
  | (k, w) :: rest =>
    if k < i then (k, w) :: Memory.biosPut rest i v
    else if k = i then (i, v) :: rest
    else (i, v) :: (k, w) :: rest

end Sys2Proof.Machine
end

