-- ==== Sys2Proof/Machine/Cart.lean ====
section
/-! DEFINITION. The Cartridge contract (R85 to R94): construction, the MBC0 and MBC1 windows, the MBC1
registers. -/

namespace Sys2Proof.Machine

/-- Build a Cartridge from `len` ROM bytes (R85 to R87, R93): `none` where the preconditions exclude the image
(shorter than 0x8000, or MBC1 and no multiple of 0x4000). RAM zero-filled, MBC1 registers as D35 fixes them. -/
def Cartridge.build (len : Nat) (rom : List Host.Cell) : Option Cartridge :=
  let type := Memory.read rom 0x0147
  let kind : CartKind := if type = 0 then .mbc0 else if type.toNat ≤ 3 then .mbc1 else .inert
  if len < 0x8000 || (kind == .mbc1 && decide (len % 0x4000 ≠ 0)) then none
  else some { kind := kind, romLength := len, rom := rom, ram := [],
              ramEnable := false, romLow := 1, hi2 := 0, ramBank := 0, mode := false }

/-- The addresses the Cartridge's own regions cover (R65, R86, R87, R93). -/
def Cartridge.contains (c : Cartridge) (a : Nat) : Bool :=
  match c.kind with
  | .inert => false
  | _ => decide (a ≤ 0x7FFF) || (decide (0xA000 ≤ a) && decide (a ≤ 0xBFFF))

/-- The switchable ROM block's array index (R92): `((hi2 << 5) | romLow) - 1`. -/
def Cartridge.romIndex (c : Cartridge) : Nat := (c.hi2.toNat * 32 + c.romLow.toNat) - 1

/-- How many banks the switchable ROM block has (R87): all but hardware bank 0. -/
def Cartridge.romBanks (c : Cartridge) : Nat := c.romLength / 0x4000 - 1

/-- The length of one RAM bank: 8 KB on MBC0 (R86); on MBC1 by the RAM-size byte 0x0149 (R85, R87). -/
def Cartridge.ramBankLength (c : Cartridge) : Nat :=
  match c.kind with
  | .mbc1 =>
    let size := Memory.read c.rom 0x0149
    if size = 2 ∨ size = 3 then 0x2000 else 0x0800
  | _ => 0x2000

/-- How many RAM banks there are (R87). -/
def Cartridge.ramBanks (c : Cartridge) : Nat :=
  match c.kind with
  | .mbc1 => if Memory.read c.rom 0x0149 = 3 then 4 else 1
  | _ => 1

/-- The ROM offset shown at `a`, for `a` up to 0x7FFF (R86, R87, R92). A bank number beyond the last counts modulo
the number of banks, hardware bank 0 included (log 23); where `MBC1_BANK_OOR` is `fault`, only a Cartridge put back after
the fault has such a number. -/
def Cartridge.romOffset (c : Cartridge) (a : Nat) : Nat :=
  if c.kind = .mbc1 ∧ 0x4000 ≤ a then (c.romIndex + 1) % (c.romLength / 0x4000) * 0x4000 + (a - 0x4000) else a

/-- The RAM offset shown at `a`, for `a` from 0xA000 to 0xBFFF (R31, R86, R87). A bank number beyond the last counts
modulo the number of banks, as in the ROM (log 23). -/
def Cartridge.ramOffset (c : Cartridge) (a : Nat) : Nat :=
  let bank := match c.kind with
    | .mbc1 => c.ramBank.toNat % c.ramBanks
    | _ => 0
  bank * 0x2000 + (a - 0xA000) % c.ramBankLength

/-- The RAM block's `enabled` flag (R86, R87). -/
def Cartridge.ramEnabled (c : Cartridge) : Bool :=
  match c.kind with
  | .mbc1 => c.ramEnable
  | _ => true

/-- The Cartridge's own subscribers (R88 to R91, R94): a write of `v` into one of MBC1's four windows. -/
def Cartridge.select (c : Cartridge) (a : Nat) (v : Byte) : Cartridge :=
  match c.kind with
  | .mbc1 =>
    if a ≤ 0x1FFF then { c with ramEnable := decide (v.toNat % 16 = 0x0A) }
    else if a ≤ 0x3FFF then
      let low : BitVec 5 := BitVec.ofNat 5 v.toNat
      { c with romLow := if low = 0 then 1 else low }
    else if a ≤ 0x5FFF then
      if c.mode then { c with ramBank := BitVec.ofNat 2 v.toNat } else { c with hi2 := BitVec.ofNat 2 v.toNat }
    else if a ≤ 0x7FFF then { c with mode := v.getLsbD 0 }
    else c
  | _ => c

/-- After a write into 0x2000 to 0x7FFF the bank indexes are set (R92); is one of them beyond the last bank? -/
def Cartridge.outOfRange (c : Cartridge) (a : Nat) : Bool :=
  match c.kind with
  | .mbc1 =>
    decide (0x2000 ≤ a) && decide (a ≤ 0x7FFF) &&
      (decide (c.romBanks ≤ c.romIndex) || decide (c.ramBanks ≤ c.ramBank.toNat))
  | _ => false

end Sys2Proof.Machine
end

