-- ==== Sys2Proof/WellFormed.lean ====
section
/-! DEFINITION. Which terms of `Instr` are instructions that stand on their own in the instruction stream.
Every operand is held at its exact width, so no operand can be out of range. -/

namespace Sys2Proof

/-- The one check: the prefix byte 0xCB is never an instruction of its own (R138); the byte after it belongs
to it and makes it a row of the 0xCB page. -/
def Instr.wf (i : Instr) : Bool := i != .prefix_cb

end Sys2Proof
end

