-- ==== Sys2Proof/Decode.lean ====
section
/-! DEFINITION. Decoding (R130 to R143), total on any bytes, by the fields `x`, `y`, `z` of the opcode byte, and
after it the encoder and the cost table, written from the spec's tables row by row. -/

namespace Sys2Proof

/-! ### Byte order (R9, R76) -/

/-- The high byte of a word, `w[15:8]`. -/
def hi (w : Word) : Byte := w.extractLsb' 8 8

/-- The low byte of a word, `w[7:0]`. -/
def lo (w : Word) : Byte := w.extractLsb' 0 8

/-- `word(h, l) = h ++ l`. -/
def word (h l : Byte) : Word := h ++ l

/-! ### Fields (R132 to R137) -/

/-- The 3-bit field with this value (taken modulo 8). -/
def Oct.field (k : Nat) : Oct :=
  match k % 8 with
  | 0 => .o0 | 1 => .o1 | 2 => .o2 | 3 => .o3 | 4 => .o4 | 5 => .o5 | 6 => .o6 | _ => .o7

/-- The value of a 3-bit field. -/
def Oct.val : Oct → Nat
  | .o0 => 0 | .o1 => 1 | .o2 => 2 | .o3 => 3 | .o4 => 4 | .o5 => 5 | .o6 => 6 | .o7 => 7

/-- The register field (R132). -/
def Oct.opnd : Oct → Opnd8
  | .o0 => .reg .b | .o1 => .reg .c | .o2 => .reg .d | .o3 => .reg .e
  | .o4 => .reg .h | .o5 => .reg .l | .o6 => .mhl | .o7 => .reg .a

/-- The accumulator operation number (R137). -/
def Oct.alu : Oct → AluOp
  | .o0 => .add | .o1 => .adc | .o2 => .sub | .o3 => .sbc
  | .o4 => .and | .o5 => .xor | .o6 => .or | .o7 => .cp

/-- The rotate or shift number (R290). -/
def Oct.rot : Oct → RotOp
  | .o0 => .rlc | .o1 => .rrc | .o2 => .rl | .o3 => .rr
  | .o4 => .sla | .o5 => .sra | .o6 => .swap | .o7 => .srl

/-! ### The regular blocks of the opcode map (R137), as functions of their fields -/

/-- `LD r[y], r[z]`, and `HALT` where both fields are 6 (R137, 0x40 to 0x7F). -/
def Instr.ldForm : Opnd8 → Opnd8 → Instr
  | .reg .b, .reg .b => .ld_b_b | .reg .b, .reg .c => .ld_b_c | .reg .b, .reg .d => .ld_b_d | .reg .b, .reg .e => .ld_b_e
  | .reg .b, .reg .h => .ld_b_h | .reg .b, .reg .l => .ld_b_l | .reg .b, .mhl => .ld_b_mhl | .reg .b, .reg .a => .ld_b_a
  | .reg .c, .reg .b => .ld_c_b | .reg .c, .reg .c => .ld_c_c | .reg .c, .reg .d => .ld_c_d | .reg .c, .reg .e => .ld_c_e
  | .reg .c, .reg .h => .ld_c_h | .reg .c, .reg .l => .ld_c_l | .reg .c, .mhl => .ld_c_mhl | .reg .c, .reg .a => .ld_c_a
  | .reg .d, .reg .b => .ld_d_b | .reg .d, .reg .c => .ld_d_c | .reg .d, .reg .d => .ld_d_d | .reg .d, .reg .e => .ld_d_e
  | .reg .d, .reg .h => .ld_d_h | .reg .d, .reg .l => .ld_d_l | .reg .d, .mhl => .ld_d_mhl | .reg .d, .reg .a => .ld_d_a
  | .reg .e, .reg .b => .ld_e_b | .reg .e, .reg .c => .ld_e_c | .reg .e, .reg .d => .ld_e_d | .reg .e, .reg .e => .ld_e_e
  | .reg .e, .reg .h => .ld_e_h | .reg .e, .reg .l => .ld_e_l | .reg .e, .mhl => .ld_e_mhl | .reg .e, .reg .a => .ld_e_a
  | .reg .h, .reg .b => .ld_h_b | .reg .h, .reg .c => .ld_h_c | .reg .h, .reg .d => .ld_h_d | .reg .h, .reg .e => .ld_h_e
  | .reg .h, .reg .h => .ld_h_h | .reg .h, .reg .l => .ld_h_l | .reg .h, .mhl => .ld_h_mhl | .reg .h, .reg .a => .ld_h_a
  | .reg .l, .reg .b => .ld_l_b | .reg .l, .reg .c => .ld_l_c | .reg .l, .reg .d => .ld_l_d | .reg .l, .reg .e => .ld_l_e
  | .reg .l, .reg .h => .ld_l_h | .reg .l, .reg .l => .ld_l_l | .reg .l, .mhl => .ld_l_mhl | .reg .l, .reg .a => .ld_l_a
  | .mhl, .reg .b => .ld_mhl_b | .mhl, .reg .c => .ld_mhl_c | .mhl, .reg .d => .ld_mhl_d | .mhl, .reg .e => .ld_mhl_e
  | .mhl, .reg .h => .ld_mhl_h | .mhl, .reg .l => .ld_mhl_l | .mhl, .mhl => .halt | .mhl, .reg .a => .ld_mhl_a
  | .reg .a, .reg .b => .ld_a_b | .reg .a, .reg .c => .ld_a_c | .reg .a, .reg .d => .ld_a_d | .reg .a, .reg .e => .ld_a_e
  | .reg .a, .reg .h => .ld_a_h | .reg .a, .reg .l => .ld_a_l | .reg .a, .mhl => .ld_a_mhl | .reg .a, .reg .a => .ld_a_a

/-- Accumulator operation `y` on `r[z]` (R137, 0x80 to 0xBF). -/
def Instr.aluForm : AluOp → Opnd8 → Instr
  | .add, .reg .b => .add_a_b | .add, .reg .c => .add_a_c | .add, .reg .d => .add_a_d | .add, .reg .e => .add_a_e
  | .add, .reg .h => .add_a_h | .add, .reg .l => .add_a_l | .add, .mhl => .add_a_mhl | .add, .reg .a => .add_a_a
  | .adc, .reg .b => .adc_a_b | .adc, .reg .c => .adc_a_c | .adc, .reg .d => .adc_a_d | .adc, .reg .e => .adc_a_e
  | .adc, .reg .h => .adc_a_h | .adc, .reg .l => .adc_a_l | .adc, .mhl => .adc_a_mhl | .adc, .reg .a => .adc_a_a
  | .sub, .reg .b => .sub_b | .sub, .reg .c => .sub_c | .sub, .reg .d => .sub_d | .sub, .reg .e => .sub_e
  | .sub, .reg .h => .sub_h | .sub, .reg .l => .sub_l | .sub, .mhl => .sub_mhl | .sub, .reg .a => .sub_a
  | .sbc, .reg .b => .sbc_a_b | .sbc, .reg .c => .sbc_a_c | .sbc, .reg .d => .sbc_a_d | .sbc, .reg .e => .sbc_a_e
  | .sbc, .reg .h => .sbc_a_h | .sbc, .reg .l => .sbc_a_l | .sbc, .mhl => .sbc_a_mhl | .sbc, .reg .a => .sbc_a_a
  | .and, .reg .b => .and_b | .and, .reg .c => .and_c | .and, .reg .d => .and_d | .and, .reg .e => .and_e
  | .and, .reg .h => .and_h | .and, .reg .l => .and_l | .and, .mhl => .and_mhl | .and, .reg .a => .and_a
  | .xor, .reg .b => .xor_b | .xor, .reg .c => .xor_c | .xor, .reg .d => .xor_d | .xor, .reg .e => .xor_e
  | .xor, .reg .h => .xor_h | .xor, .reg .l => .xor_l | .xor, .mhl => .xor_mhl | .xor, .reg .a => .xor_a
  | .or, .reg .b => .or_b | .or, .reg .c => .or_c | .or, .reg .d => .or_d | .or, .reg .e => .or_e
  | .or, .reg .h => .or_h | .or, .reg .l => .or_l | .or, .mhl => .or_mhl | .or, .reg .a => .or_a
  | .cp, .reg .b => .cp_b | .cp, .reg .c => .cp_c | .cp, .reg .d => .cp_d | .cp, .reg .e => .cp_e
  | .cp, .reg .h => .cp_h | .cp, .reg .l => .cp_l | .cp, .mhl => .cp_mhl | .cp, .reg .a => .cp_a

/-- Accumulator operation `y` on an immediate (R137, `11 yyy 110`). -/
def Instr.aluImmForm : AluOp → Byte → Instr
  | .add, n => .add_a_n n
  | .adc, n => .adc_a_n n
  | .sub, n => .sub_n n
  | .sbc, n => .sbc_a_n n
  | .and, n => .and_n n
  | .xor, n => .xor_n n
  | .or, n => .or_n n
  | .cp, n => .cp_n n

/-- `LD r[y], n` (R137, `00 yyy 110`). -/
def Instr.ldImmForm : Opnd8 → Byte → Instr
  | .reg .b, n => .ld_b_n n
  | .reg .c, n => .ld_c_n n
  | .reg .d, n => .ld_d_n n
  | .reg .e, n => .ld_e_n n
  | .reg .h, n => .ld_h_n n
  | .reg .l, n => .ld_l_n n
  | .mhl, n => .ld_mhl_n n
  | .reg .a, n => .ld_a_n n

/-- `INC r[y]` (R137, `00 yyy 100`). -/
def Instr.incForm : Opnd8 → Instr
  | .reg .b => .inc_b
  | .reg .c => .inc_c
  | .reg .d => .inc_d
  | .reg .e => .inc_e
  | .reg .h => .inc_h
  | .reg .l => .inc_l
  | .mhl => .inc_mhl
  | .reg .a => .inc_a

/-- `DEC r[y]` (R137, `00 yyy 101`). -/
def Instr.decForm : Opnd8 → Instr
  | .reg .b => .dec_b
  | .reg .c => .dec_c
  | .reg .d => .dec_d
  | .reg .e => .dec_e
  | .reg .h => .dec_h
  | .reg .l => .dec_l
  | .mhl => .dec_mhl
  | .reg .a => .dec_a

/-- `LD rr, nn` (R190, `00 rr0 001`). -/
def Instr.ldPairForm : Pair → Word → Instr
  | .bc, nn => .ld_bc_nn nn
  | .de, nn => .ld_de_nn nn
  | .hl, nn => .ld_hl_nn nn
  | .sp, nn => .ld_sp_nn nn

/-- `ADD HL, rr` (R240, `00 rr1 001`). -/
def Instr.addHlForm : Pair → Instr
  | .bc => .add_hl_bc
  | .de => .add_hl_de
  | .hl => .add_hl_hl
  | .sp => .add_hl_sp

/-- `INC rr` (R241, `00 rr0 011`). -/
def Instr.incPairForm : Pair → Instr
  | .bc => .inc_bc
  | .de => .inc_de
  | .hl => .inc_hl
  | .sp => .inc_sp

/-- `DEC rr` (R242, `00 rr1 011`). -/
def Instr.decPairForm : Pair → Instr
  | .bc => .dec_bc
  | .de => .dec_de
  | .hl => .dec_hl
  | .sp => .dec_sp

/-- `PUSH qq` (R194, `11 qq0 101`). -/
def Instr.pushForm : StackPair → Instr
  | .bc => .push_bc
  | .de => .push_de
  | .hl => .push_hl
  | .af => .push_af

/-- `POP qq` (R195, R196, `11 qq0 001`). -/
def Instr.popForm : StackPair → Instr
  | .bc => .pop_bc
  | .de => .pop_de
  | .hl => .pop_hl
  | .af => .pop_af

/-- `JR cc, e` (R275, `001 cc 000`). -/
def Instr.jrCondForm : Cond → Byte → Instr
  | .nz, e => .jr_nz_e e
  | .z, e => .jr_z_e e
  | .nc, e => .jr_nc_e e
  | .c, e => .jr_c_e e

/-- `JP cc, nn` (R272, `110 cc 010`). -/
def Instr.jpCondForm : Cond → Word → Instr
  | .nz, nn => .jp_nz_nn nn
  | .z, nn => .jp_z_nn nn
  | .nc, nn => .jp_nc_nn nn
  | .c, nn => .jp_c_nn nn

/-- `CALL cc, nn` (R277, `110 cc 100`). -/
def Instr.callCondForm : Cond → Word → Instr
  | .nz, nn => .call_nz_nn nn
  | .z, nn => .call_z_nn nn
  | .nc, nn => .call_nc_nn nn
  | .c, nn => .call_c_nn nn

/-- `RET cc` (R279, `110 cc 000`). -/
def Instr.retCondForm : Cond → Instr
  | .nz => .ret_nz
  | .z => .ret_z
  | .nc => .ret_nc
  | .c => .ret_c

/-- `RST t` (R281, `11 ttt 111`). -/
def Instr.rstForm : Oct → Instr
  | .o0 => .rst_00
  | .o1 => .rst_08
  | .o2 => .rst_10
  | .o3 => .rst_18
  | .o4 => .rst_20
  | .o5 => .rst_28
  | .o6 => .rst_30
  | .o7 => .rst_38

/-- Rotate or shift `y` on `r[z]` (R290, 0xCB page, `x = 0`). -/
def Instr.rotForm : RotOp → Opnd8 → Instr
  | .rlc, .reg .b => .rlc_b | .rlc, .reg .c => .rlc_c | .rlc, .reg .d => .rlc_d | .rlc, .reg .e => .rlc_e
  | .rlc, .reg .h => .rlc_h | .rlc, .reg .l => .rlc_l | .rlc, .mhl => .rlc_mhl | .rlc, .reg .a => .rlc_a
  | .rrc, .reg .b => .rrc_b | .rrc, .reg .c => .rrc_c | .rrc, .reg .d => .rrc_d | .rrc, .reg .e => .rrc_e
  | .rrc, .reg .h => .rrc_h | .rrc, .reg .l => .rrc_l | .rrc, .mhl => .rrc_mhl | .rrc, .reg .a => .rrc_a
  | .rl, .reg .b => .rl_b | .rl, .reg .c => .rl_c | .rl, .reg .d => .rl_d | .rl, .reg .e => .rl_e
  | .rl, .reg .h => .rl_h | .rl, .reg .l => .rl_l | .rl, .mhl => .rl_mhl | .rl, .reg .a => .rl_a
  | .rr, .reg .b => .rr_b | .rr, .reg .c => .rr_c | .rr, .reg .d => .rr_d | .rr, .reg .e => .rr_e
  | .rr, .reg .h => .rr_h | .rr, .reg .l => .rr_l | .rr, .mhl => .rr_mhl | .rr, .reg .a => .rr_a
  | .sla, .reg .b => .sla_b | .sla, .reg .c => .sla_c | .sla, .reg .d => .sla_d | .sla, .reg .e => .sla_e
  | .sla, .reg .h => .sla_h | .sla, .reg .l => .sla_l | .sla, .mhl => .sla_mhl | .sla, .reg .a => .sla_a
  | .sra, .reg .b => .sra_b | .sra, .reg .c => .sra_c | .sra, .reg .d => .sra_d | .sra, .reg .e => .sra_e
  | .sra, .reg .h => .sra_h | .sra, .reg .l => .sra_l | .sra, .mhl => .sra_mhl | .sra, .reg .a => .sra_a
  | .swap, .reg .b => .swap_b | .swap, .reg .c => .swap_c | .swap, .reg .d => .swap_d | .swap, .reg .e => .swap_e
  | .swap, .reg .h => .swap_h | .swap, .reg .l => .swap_l | .swap, .mhl => .swap_mhl | .swap, .reg .a => .swap_a
  | .srl, .reg .b => .srl_b | .srl, .reg .c => .srl_c | .srl, .reg .d => .srl_d | .srl, .reg .e => .srl_e
  | .srl, .reg .h => .srl_h | .srl, .reg .l => .srl_l | .srl, .mhl => .srl_mhl | .srl, .reg .a => .srl_a

/-- `BIT y, r[z]` (R299, 0xCB page, `x = 1`). -/
def Instr.bitForm : Oct → Opnd8 → Instr
  | .o0, .reg .b => .bit_0_b | .o0, .reg .c => .bit_0_c | .o0, .reg .d => .bit_0_d | .o0, .reg .e => .bit_0_e
  | .o0, .reg .h => .bit_0_h | .o0, .reg .l => .bit_0_l | .o0, .mhl => .bit_0_mhl | .o0, .reg .a => .bit_0_a
  | .o1, .reg .b => .bit_1_b | .o1, .reg .c => .bit_1_c | .o1, .reg .d => .bit_1_d | .o1, .reg .e => .bit_1_e
  | .o1, .reg .h => .bit_1_h | .o1, .reg .l => .bit_1_l | .o1, .mhl => .bit_1_mhl | .o1, .reg .a => .bit_1_a
  | .o2, .reg .b => .bit_2_b | .o2, .reg .c => .bit_2_c | .o2, .reg .d => .bit_2_d | .o2, .reg .e => .bit_2_e
  | .o2, .reg .h => .bit_2_h | .o2, .reg .l => .bit_2_l | .o2, .mhl => .bit_2_mhl | .o2, .reg .a => .bit_2_a
  | .o3, .reg .b => .bit_3_b | .o3, .reg .c => .bit_3_c | .o3, .reg .d => .bit_3_d | .o3, .reg .e => .bit_3_e
  | .o3, .reg .h => .bit_3_h | .o3, .reg .l => .bit_3_l | .o3, .mhl => .bit_3_mhl | .o3, .reg .a => .bit_3_a
  | .o4, .reg .b => .bit_4_b | .o4, .reg .c => .bit_4_c | .o4, .reg .d => .bit_4_d | .o4, .reg .e => .bit_4_e
  | .o4, .reg .h => .bit_4_h | .o4, .reg .l => .bit_4_l | .o4, .mhl => .bit_4_mhl | .o4, .reg .a => .bit_4_a
  | .o5, .reg .b => .bit_5_b | .o5, .reg .c => .bit_5_c | .o5, .reg .d => .bit_5_d | .o5, .reg .e => .bit_5_e
  | .o5, .reg .h => .bit_5_h | .o5, .reg .l => .bit_5_l | .o5, .mhl => .bit_5_mhl | .o5, .reg .a => .bit_5_a
  | .o6, .reg .b => .bit_6_b | .o6, .reg .c => .bit_6_c | .o6, .reg .d => .bit_6_d | .o6, .reg .e => .bit_6_e
  | .o6, .reg .h => .bit_6_h | .o6, .reg .l => .bit_6_l | .o6, .mhl => .bit_6_mhl | .o6, .reg .a => .bit_6_a
  | .o7, .reg .b => .bit_7_b | .o7, .reg .c => .bit_7_c | .o7, .reg .d => .bit_7_d | .o7, .reg .e => .bit_7_e
  | .o7, .reg .h => .bit_7_h | .o7, .reg .l => .bit_7_l | .o7, .mhl => .bit_7_mhl | .o7, .reg .a => .bit_7_a

/-- `RES y, r[z]` (R300, 0xCB page, `x = 2`). -/
def Instr.resForm : Oct → Opnd8 → Instr
  | .o0, .reg .b => .res_0_b | .o0, .reg .c => .res_0_c | .o0, .reg .d => .res_0_d | .o0, .reg .e => .res_0_e
  | .o0, .reg .h => .res_0_h | .o0, .reg .l => .res_0_l | .o0, .mhl => .res_0_mhl | .o0, .reg .a => .res_0_a
  | .o1, .reg .b => .res_1_b | .o1, .reg .c => .res_1_c | .o1, .reg .d => .res_1_d | .o1, .reg .e => .res_1_e
  | .o1, .reg .h => .res_1_h | .o1, .reg .l => .res_1_l | .o1, .mhl => .res_1_mhl | .o1, .reg .a => .res_1_a
  | .o2, .reg .b => .res_2_b | .o2, .reg .c => .res_2_c | .o2, .reg .d => .res_2_d | .o2, .reg .e => .res_2_e
  | .o2, .reg .h => .res_2_h | .o2, .reg .l => .res_2_l | .o2, .mhl => .res_2_mhl | .o2, .reg .a => .res_2_a
  | .o3, .reg .b => .res_3_b | .o3, .reg .c => .res_3_c | .o3, .reg .d => .res_3_d | .o3, .reg .e => .res_3_e
  | .o3, .reg .h => .res_3_h | .o3, .reg .l => .res_3_l | .o3, .mhl => .res_3_mhl | .o3, .reg .a => .res_3_a
  | .o4, .reg .b => .res_4_b | .o4, .reg .c => .res_4_c | .o4, .reg .d => .res_4_d | .o4, .reg .e => .res_4_e
  | .o4, .reg .h => .res_4_h | .o4, .reg .l => .res_4_l | .o4, .mhl => .res_4_mhl | .o4, .reg .a => .res_4_a
  | .o5, .reg .b => .res_5_b | .o5, .reg .c => .res_5_c | .o5, .reg .d => .res_5_d | .o5, .reg .e => .res_5_e
  | .o5, .reg .h => .res_5_h | .o5, .reg .l => .res_5_l | .o5, .mhl => .res_5_mhl | .o5, .reg .a => .res_5_a
  | .o6, .reg .b => .res_6_b | .o6, .reg .c => .res_6_c | .o6, .reg .d => .res_6_d | .o6, .reg .e => .res_6_e
  | .o6, .reg .h => .res_6_h | .o6, .reg .l => .res_6_l | .o6, .mhl => .res_6_mhl | .o6, .reg .a => .res_6_a
  | .o7, .reg .b => .res_7_b | .o7, .reg .c => .res_7_c | .o7, .reg .d => .res_7_d | .o7, .reg .e => .res_7_e
  | .o7, .reg .h => .res_7_h | .o7, .reg .l => .res_7_l | .o7, .mhl => .res_7_mhl | .o7, .reg .a => .res_7_a

/-- `SET y, r[z]` (R301, 0xCB page, `x = 3`). -/
def Instr.setForm : Oct → Opnd8 → Instr
  | .o0, .reg .b => .set_0_b | .o0, .reg .c => .set_0_c | .o0, .reg .d => .set_0_d | .o0, .reg .e => .set_0_e
  | .o0, .reg .h => .set_0_h | .o0, .reg .l => .set_0_l | .o0, .mhl => .set_0_mhl | .o0, .reg .a => .set_0_a
  | .o1, .reg .b => .set_1_b | .o1, .reg .c => .set_1_c | .o1, .reg .d => .set_1_d | .o1, .reg .e => .set_1_e
  | .o1, .reg .h => .set_1_h | .o1, .reg .l => .set_1_l | .o1, .mhl => .set_1_mhl | .o1, .reg .a => .set_1_a
  | .o2, .reg .b => .set_2_b | .o2, .reg .c => .set_2_c | .o2, .reg .d => .set_2_d | .o2, .reg .e => .set_2_e
  | .o2, .reg .h => .set_2_h | .o2, .reg .l => .set_2_l | .o2, .mhl => .set_2_mhl | .o2, .reg .a => .set_2_a
  | .o3, .reg .b => .set_3_b | .o3, .reg .c => .set_3_c | .o3, .reg .d => .set_3_d | .o3, .reg .e => .set_3_e
  | .o3, .reg .h => .set_3_h | .o3, .reg .l => .set_3_l | .o3, .mhl => .set_3_mhl | .o3, .reg .a => .set_3_a
  | .o4, .reg .b => .set_4_b | .o4, .reg .c => .set_4_c | .o4, .reg .d => .set_4_d | .o4, .reg .e => .set_4_e
  | .o4, .reg .h => .set_4_h | .o4, .reg .l => .set_4_l | .o4, .mhl => .set_4_mhl | .o4, .reg .a => .set_4_a
  | .o5, .reg .b => .set_5_b | .o5, .reg .c => .set_5_c | .o5, .reg .d => .set_5_d | .o5, .reg .e => .set_5_e
  | .o5, .reg .h => .set_5_h | .o5, .reg .l => .set_5_l | .o5, .mhl => .set_5_mhl | .o5, .reg .a => .set_5_a
  | .o6, .reg .b => .set_6_b | .o6, .reg .c => .set_6_c | .o6, .reg .d => .set_6_d | .o6, .reg .e => .set_6_e
  | .o6, .reg .h => .set_6_h | .o6, .reg .l => .set_6_l | .o6, .mhl => .set_6_mhl | .o6, .reg .a => .set_6_a
  | .o7, .reg .b => .set_7_b | .o7, .reg .c => .set_7_c | .o7, .reg .d => .set_7_d | .o7, .reg .e => .set_7_e
  | .o7, .reg .h => .set_7_h | .o7, .reg .l => .set_7_l | .o7, .mhl => .set_7_mhl | .o7, .reg .a => .set_7_a

/-- The `x = 0` quarter of the base space by `z`, then `y` (R137, R142); `n1`, `n2` are the bytes after the
opcode. -/
def decodeX0 (y z : Oct) (n1 n2 : Byte) : Instr :=
  match z with
  | .o0 =>
    match y with
    | .o0 => .nop
    | .o1 => .ld_mnn_sp (word n2 n1)
    | .o2 => .stop n1
    | .o3 => .jr_e n1
    | .o4 => .jr_nz_e n1
    | .o5 => .jr_z_e n1
    | .o6 => .jr_nc_e n1
    | .o7 => .jr_c_e n1
  | .o1 =>
    match y with
    | .o0 => .ld_bc_nn (word n2 n1)
    | .o1 => .add_hl_bc
    | .o2 => .ld_de_nn (word n2 n1)
    | .o3 => .add_hl_de
    | .o4 => .ld_hl_nn (word n2 n1)
    | .o5 => .add_hl_hl
    | .o6 => .ld_sp_nn (word n2 n1)
    | .o7 => .add_hl_sp
  | .o2 =>
    match y with
    | .o0 => .ld_mbc_a
    | .o1 => .ld_a_mbc
    | .o2 => .ld_mde_a
    | .o3 => .ld_a_mde
    | .o4 => .ld_mhli_a
    | .o5 => .ld_a_mhli
    | .o6 => .ld_mhld_a
    | .o7 => .ld_a_mhld
  | .o3 =>
    match y with
    | .o0 => .inc_bc
    | .o1 => .dec_bc
    | .o2 => .inc_de
    | .o3 => .dec_de
    | .o4 => .inc_hl
    | .o5 => .dec_hl
    | .o6 => .inc_sp
    | .o7 => .dec_sp
  | .o4 => .incForm y.opnd
  | .o5 => .decForm y.opnd
  | .o6 => .ldImmForm y.opnd n1
  | .o7 =>
    match y with
    | .o0 => .rlca
    | .o1 => .rrca
    | .o2 => .rla
    | .o3 => .rra
    | .o4 => .daa
    | .o5 => .cpl
    | .o6 => .scf
    | .o7 => .ccf

/-- The `x = 3` quarter of the base space by `z`, then `y` (R137, R142), without the byte 0xCB, which
`decode3` reads as the prefix. -/
def decodeX3 (y z : Oct) (n1 n2 : Byte) : Instr :=
  match z with
  | .o0 =>
    match y with
    | .o0 => .ret_nz
    | .o1 => .ret_z
    | .o2 => .ret_nc
    | .o3 => .ret_c
    | .o4 => .ldh_mn_a n1
    | .o5 => .add_sp_e n1
    | .o6 => .ldh_a_mn n1
    | .o7 => .ld_hl_sp_e n1
  | .o1 =>
    match y with
    | .o0 => .pop_bc
    | .o1 => .ret
    | .o2 => .pop_de
    | .o3 => .reti
    | .o4 => .pop_hl
    | .o5 => .jp_hl
    | .o6 => .pop_af
    | .o7 => .ld_sp_hl
  | .o2 =>
    match y with
    | .o0 => .jp_nz_nn (word n2 n1)
    | .o1 => .jp_z_nn (word n2 n1)
    | .o2 => .jp_nc_nn (word n2 n1)
    | .o3 => .jp_c_nn (word n2 n1)
    | .o4 => .ldh_mc_a
    | .o5 => .ld_mnn_a (word n2 n1)
    | .o6 => .ldh_a_mc
    | .o7 => .ld_a_mnn (word n2 n1)
  | .o3 =>
    match y with
    | .o0 => .jp_nn (word n2 n1)
    | .o1 => .prefix_cb
    | .o2 => .illegal_d3
    | .o3 => .illegal_db
    | .o4 => .illegal_e3
    | .o5 => .illegal_eb
    | .o6 => .di
    | .o7 => .ei
  | .o4 =>
    match y with
    | .o0 => .call_nz_nn (word n2 n1)
    | .o1 => .call_z_nn (word n2 n1)
    | .o2 => .call_nc_nn (word n2 n1)
    | .o3 => .call_c_nn (word n2 n1)
    | .o4 => .illegal_e4
    | .o5 => .illegal_ec
    | .o6 => .illegal_f4
    | .o7 => .illegal_fc
  | .o5 =>
    match y with
    | .o0 => .push_bc
    | .o1 => .call_nn (word n2 n1)
    | .o2 => .push_de
    | .o3 => .illegal_dd
    | .o4 => .push_hl
    | .o5 => .illegal_ed
    | .o6 => .push_af
    | .o7 => .illegal_fd
  | .o6 => .aluImmForm y.alu n1
  | .o7 => .rstForm y

/-- The 0xCB page (R137, R290): fully regular. -/
def decodeCb (op : Byte) : Instr :=
  let y := Oct.field (op.toNat / 8)
  let z := (Oct.field op.toNat).opnd
  match op.toNat / 64 with
  | 0 => .rotForm y.rot z
  | 1 => .bitForm y z
  | 2 => .resForm y z
  | _ => .setForm y z

/-- The base space (R137, R142). -/
def decodeBase (op n1 n2 : Byte) : Instr :=
  let y := Oct.field (op.toNat / 8)
  let z := Oct.field op.toNat
  match op.toNat / 64 with
  | 0 => decodeX0 y z n1 n2
  | 1 => .ldForm y.opnd z.opnd
  | 2 => .aluForm y.alu z.opnd
  | _ => decodeX3 y z n1 n2

/-- The instruction that starts with the byte `b0`, the next two bytes being `b1` and `b2` (R138): after a 0xCB
byte the second byte is an opcode of the 0xCB page. An unmapped byte is read as its own row (R139). -/
def decode3 (b0 b1 b2 : Byte) : Instr :=
  if b0 = 0xCB then decodeCb b1 else decodeBase b0 b1 b2

/-- Why a byte string is not the start of an instruction. -/
inductive DecodeError where
  /-- there is no byte -/
  | empty
  /-- the bytes end before the instruction that `opcode` starts does -/
  | truncated (opcode : Byte)
deriving DecidableEq, Repr

/-! ### The encoder (R132, R142, R143) -/

/-- The bytes of an instruction, first byte first. -/
def encode : Instr → List Byte
  | .nop => [0x00]
  | .ld_bc_nn nn => [0x01, lo nn, hi nn]
  | .ld_mbc_a => [0x02]
  | .inc_bc => [0x03]
  | .inc_b => [0x04]
  | .dec_b => [0x05]
  | .ld_b_n n => [0x06, n]
  | .rlca => [0x07]
  | .ld_mnn_sp nn => [0x08, lo nn, hi nn]
  | .add_hl_bc => [0x09]
  | .ld_a_mbc => [0x0A]
  | .dec_bc => [0x0B]
  | .inc_c => [0x0C]
  | .dec_c => [0x0D]
  | .ld_c_n n => [0x0E, n]
  | .rrca => [0x0F]
  | .stop n => [0x10, n]
  | .ld_de_nn nn => [0x11, lo nn, hi nn]
  | .ld_mde_a => [0x12]
  | .inc_de => [0x13]
  | .inc_d => [0x14]
  | .dec_d => [0x15]
  | .ld_d_n n => [0x16, n]
  | .rla => [0x17]
  | .jr_e e => [0x18, e]
  | .add_hl_de => [0x19]
  | .ld_a_mde => [0x1A]
  | .dec_de => [0x1B]
  | .inc_e => [0x1C]
  | .dec_e => [0x1D]
  | .ld_e_n n => [0x1E, n]
  | .rra => [0x1F]
  | .jr_nz_e e => [0x20, e]
  | .ld_hl_nn nn => [0x21, lo nn, hi nn]
  | .ld_mhli_a => [0x22]
  | .inc_hl => [0x23]
  | .inc_h => [0x24]
  | .dec_h => [0x25]
  | .ld_h_n n => [0x26, n]
  | .daa => [0x27]
  | .jr_z_e e => [0x28, e]
  | .add_hl_hl => [0x29]
  | .ld_a_mhli => [0x2A]
  | .dec_hl => [0x2B]
  | .inc_l => [0x2C]
  | .dec_l => [0x2D]
  | .ld_l_n n => [0x2E, n]
  | .cpl => [0x2F]
  | .jr_nc_e e => [0x30, e]
  | .ld_sp_nn nn => [0x31, lo nn, hi nn]
  | .ld_mhld_a => [0x32]
  | .inc_sp => [0x33]
  | .inc_mhl => [0x34]
  | .dec_mhl => [0x35]
  | .ld_mhl_n n => [0x36, n]
  | .scf => [0x37]
  | .jr_c_e e => [0x38, e]
  | .add_hl_sp => [0x39]
  | .ld_a_mhld => [0x3A]
  | .dec_sp => [0x3B]
  | .inc_a => [0x3C]
  | .dec_a => [0x3D]
  | .ld_a_n n => [0x3E, n]
  | .ccf => [0x3F]
  | .ld_b_b => [0x40]
  | .ld_b_c => [0x41]
  | .ld_b_d => [0x42]
  | .ld_b_e => [0x43]
  | .ld_b_h => [0x44]
  | .ld_b_l => [0x45]
  | .ld_b_mhl => [0x46]
  | .ld_b_a => [0x47]
  | .ld_c_b => [0x48]
  | .ld_c_c => [0x49]
  | .ld_c_d => [0x4A]
  | .ld_c_e => [0x4B]
  | .ld_c_h => [0x4C]
  | .ld_c_l => [0x4D]
  | .ld_c_mhl => [0x4E]
  | .ld_c_a => [0x4F]
  | .ld_d_b => [0x50]
  | .ld_d_c => [0x51]
  | .ld_d_d => [0x52]
  | .ld_d_e => [0x53]
  | .ld_d_h => [0x54]
  | .ld_d_l => [0x55]
  | .ld_d_mhl => [0x56]
  | .ld_d_a => [0x57]
  | .ld_e_b => [0x58]
  | .ld_e_c => [0x59]
  | .ld_e_d => [0x5A]
  | .ld_e_e => [0x5B]
  | .ld_e_h => [0x5C]
  | .ld_e_l => [0x5D]
  | .ld_e_mhl => [0x5E]
  | .ld_e_a => [0x5F]
  | .ld_h_b => [0x60]
  | .ld_h_c => [0x61]
  | .ld_h_d => [0x62]
  | .ld_h_e => [0x63]
  | .ld_h_h => [0x64]
  | .ld_h_l => [0x65]
  | .ld_h_mhl => [0x66]
  | .ld_h_a => [0x67]
  | .ld_l_b => [0x68]
  | .ld_l_c => [0x69]
  | .ld_l_d => [0x6A]
  | .ld_l_e => [0x6B]
  | .ld_l_h => [0x6C]
  | .ld_l_l => [0x6D]
  | .ld_l_mhl => [0x6E]
  | .ld_l_a => [0x6F]
  | .ld_mhl_b => [0x70]
  | .ld_mhl_c => [0x71]
  | .ld_mhl_d => [0x72]
  | .ld_mhl_e => [0x73]
  | .ld_mhl_h => [0x74]
  | .ld_mhl_l => [0x75]
  | .halt => [0x76]
  | .ld_mhl_a => [0x77]
  | .ld_a_b => [0x78]
  | .ld_a_c => [0x79]
  | .ld_a_d => [0x7A]
  | .ld_a_e => [0x7B]
  | .ld_a_h => [0x7C]
  | .ld_a_l => [0x7D]
  | .ld_a_mhl => [0x7E]
  | .ld_a_a => [0x7F]
  | .add_a_b => [0x80]
  | .add_a_c => [0x81]
  | .add_a_d => [0x82]
  | .add_a_e => [0x83]
  | .add_a_h => [0x84]
  | .add_a_l => [0x85]
  | .add_a_mhl => [0x86]
  | .add_a_a => [0x87]
  | .adc_a_b => [0x88]
  | .adc_a_c => [0x89]
  | .adc_a_d => [0x8A]
  | .adc_a_e => [0x8B]
  | .adc_a_h => [0x8C]
  | .adc_a_l => [0x8D]
  | .adc_a_mhl => [0x8E]
  | .adc_a_a => [0x8F]
  | .sub_b => [0x90]
  | .sub_c => [0x91]
  | .sub_d => [0x92]
  | .sub_e => [0x93]
  | .sub_h => [0x94]
  | .sub_l => [0x95]
  | .sub_mhl => [0x96]
  | .sub_a => [0x97]
  | .sbc_a_b => [0x98]
  | .sbc_a_c => [0x99]
  | .sbc_a_d => [0x9A]
  | .sbc_a_e => [0x9B]
  | .sbc_a_h => [0x9C]
  | .sbc_a_l => [0x9D]
  | .sbc_a_mhl => [0x9E]
  | .sbc_a_a => [0x9F]
  | .and_b => [0xA0]
  | .and_c => [0xA1]
  | .and_d => [0xA2]
  | .and_e => [0xA3]
  | .and_h => [0xA4]
  | .and_l => [0xA5]
  | .and_mhl => [0xA6]
  | .and_a => [0xA7]
  | .xor_b => [0xA8]
  | .xor_c => [0xA9]
  | .xor_d => [0xAA]
  | .xor_e => [0xAB]
  | .xor_h => [0xAC]
  | .xor_l => [0xAD]
  | .xor_mhl => [0xAE]
  | .xor_a => [0xAF]
  | .or_b => [0xB0]
  | .or_c => [0xB1]
  | .or_d => [0xB2]
  | .or_e => [0xB3]
  | .or_h => [0xB4]
  | .or_l => [0xB5]
  | .or_mhl => [0xB6]
  | .or_a => [0xB7]
  | .cp_b => [0xB8]
  | .cp_c => [0xB9]
  | .cp_d => [0xBA]
  | .cp_e => [0xBB]
  | .cp_h => [0xBC]
  | .cp_l => [0xBD]
  | .cp_mhl => [0xBE]
  | .cp_a => [0xBF]
  | .ret_nz => [0xC0]
  | .pop_bc => [0xC1]
  | .jp_nz_nn nn => [0xC2, lo nn, hi nn]
  | .jp_nn nn => [0xC3, lo nn, hi nn]
  | .call_nz_nn nn => [0xC4, lo nn, hi nn]
  | .push_bc => [0xC5]
  | .add_a_n n => [0xC6, n]
  | .rst_00 => [0xC7]
  | .ret_z => [0xC8]
  | .ret => [0xC9]
  | .jp_z_nn nn => [0xCA, lo nn, hi nn]
  | .prefix_cb => [0xCB]
  | .call_z_nn nn => [0xCC, lo nn, hi nn]
  | .call_nn nn => [0xCD, lo nn, hi nn]
  | .adc_a_n n => [0xCE, n]
  | .rst_08 => [0xCF]
  | .ret_nc => [0xD0]
  | .pop_de => [0xD1]
  | .jp_nc_nn nn => [0xD2, lo nn, hi nn]
  | .illegal_d3 => [0xD3]
  | .call_nc_nn nn => [0xD4, lo nn, hi nn]
  | .push_de => [0xD5]
  | .sub_n n => [0xD6, n]
  | .rst_10 => [0xD7]
  | .ret_c => [0xD8]
  | .reti => [0xD9]
  | .jp_c_nn nn => [0xDA, lo nn, hi nn]
  | .illegal_db => [0xDB]
  | .call_c_nn nn => [0xDC, lo nn, hi nn]
  | .illegal_dd => [0xDD]
  | .sbc_a_n n => [0xDE, n]
  | .rst_18 => [0xDF]
  | .ldh_mn_a n => [0xE0, n]
  | .pop_hl => [0xE1]
  | .ldh_mc_a => [0xE2]
  | .illegal_e3 => [0xE3]
  | .illegal_e4 => [0xE4]
  | .push_hl => [0xE5]
  | .and_n n => [0xE6, n]
  | .rst_20 => [0xE7]
  | .add_sp_e e => [0xE8, e]
  | .jp_hl => [0xE9]
  | .ld_mnn_a nn => [0xEA, lo nn, hi nn]
  | .illegal_eb => [0xEB]
  | .illegal_ec => [0xEC]
  | .illegal_ed => [0xED]
  | .xor_n n => [0xEE, n]
  | .rst_28 => [0xEF]
  | .ldh_a_mn n => [0xF0, n]
  | .pop_af => [0xF1]
  | .ldh_a_mc => [0xF2]
  | .di => [0xF3]
  | .illegal_f4 => [0xF4]
  | .push_af => [0xF5]
  | .or_n n => [0xF6, n]
  | .rst_30 => [0xF7]
  | .ld_hl_sp_e e => [0xF8, e]
  | .ld_sp_hl => [0xF9]
  | .ld_a_mnn nn => [0xFA, lo nn, hi nn]
  | .ei => [0xFB]
  | .illegal_fc => [0xFC]
  | .illegal_fd => [0xFD]
  | .cp_n n => [0xFE, n]
  | .rst_38 => [0xFF]
  | .rlc_b => [0xCB, 0x00]
  | .rlc_c => [0xCB, 0x01]
  | .rlc_d => [0xCB, 0x02]
  | .rlc_e => [0xCB, 0x03]
  | .rlc_h => [0xCB, 0x04]
  | .rlc_l => [0xCB, 0x05]
  | .rlc_mhl => [0xCB, 0x06]
  | .rlc_a => [0xCB, 0x07]
  | .rrc_b => [0xCB, 0x08]
  | .rrc_c => [0xCB, 0x09]
  | .rrc_d => [0xCB, 0x0A]
  | .rrc_e => [0xCB, 0x0B]
  | .rrc_h => [0xCB, 0x0C]
  | .rrc_l => [0xCB, 0x0D]
  | .rrc_mhl => [0xCB, 0x0E]
  | .rrc_a => [0xCB, 0x0F]
  | .rl_b => [0xCB, 0x10]
  | .rl_c => [0xCB, 0x11]
  | .rl_d => [0xCB, 0x12]
  | .rl_e => [0xCB, 0x13]
  | .rl_h => [0xCB, 0x14]
  | .rl_l => [0xCB, 0x15]
  | .rl_mhl => [0xCB, 0x16]
  | .rl_a => [0xCB, 0x17]
  | .rr_b => [0xCB, 0x18]
  | .rr_c => [0xCB, 0x19]
  | .rr_d => [0xCB, 0x1A]
  | .rr_e => [0xCB, 0x1B]
  | .rr_h => [0xCB, 0x1C]
  | .rr_l => [0xCB, 0x1D]
  | .rr_mhl => [0xCB, 0x1E]
  | .rr_a => [0xCB, 0x1F]
  | .sla_b => [0xCB, 0x20]
  | .sla_c => [0xCB, 0x21]
  | .sla_d => [0xCB, 0x22]
  | .sla_e => [0xCB, 0x23]
  | .sla_h => [0xCB, 0x24]
  | .sla_l => [0xCB, 0x25]
  | .sla_mhl => [0xCB, 0x26]
  | .sla_a => [0xCB, 0x27]
  | .sra_b => [0xCB, 0x28]
  | .sra_c => [0xCB, 0x29]
  | .sra_d => [0xCB, 0x2A]
  | .sra_e => [0xCB, 0x2B]
  | .sra_h => [0xCB, 0x2C]
  | .sra_l => [0xCB, 0x2D]
  | .sra_mhl => [0xCB, 0x2E]
  | .sra_a => [0xCB, 0x2F]
  | .swap_b => [0xCB, 0x30]
  | .swap_c => [0xCB, 0x31]
  | .swap_d => [0xCB, 0x32]
  | .swap_e => [0xCB, 0x33]
  | .swap_h => [0xCB, 0x34]
  | .swap_l => [0xCB, 0x35]
  | .swap_mhl => [0xCB, 0x36]
  | .swap_a => [0xCB, 0x37]
  | .srl_b => [0xCB, 0x38]
  | .srl_c => [0xCB, 0x39]
  | .srl_d => [0xCB, 0x3A]
  | .srl_e => [0xCB, 0x3B]
  | .srl_h => [0xCB, 0x3C]
  | .srl_l => [0xCB, 0x3D]
  | .srl_mhl => [0xCB, 0x3E]
  | .srl_a => [0xCB, 0x3F]
  | .bit_0_b => [0xCB, 0x40]
  | .bit_0_c => [0xCB, 0x41]
  | .bit_0_d => [0xCB, 0x42]
  | .bit_0_e => [0xCB, 0x43]
  | .bit_0_h => [0xCB, 0x44]
  | .bit_0_l => [0xCB, 0x45]
  | .bit_0_mhl => [0xCB, 0x46]
  | .bit_0_a => [0xCB, 0x47]
  | .bit_1_b => [0xCB, 0x48]
  | .bit_1_c => [0xCB, 0x49]
  | .bit_1_d => [0xCB, 0x4A]
  | .bit_1_e => [0xCB, 0x4B]
  | .bit_1_h => [0xCB, 0x4C]
  | .bit_1_l => [0xCB, 0x4D]
  | .bit_1_mhl => [0xCB, 0x4E]
  | .bit_1_a => [0xCB, 0x4F]
  | .bit_2_b => [0xCB, 0x50]
  | .bit_2_c => [0xCB, 0x51]
  | .bit_2_d => [0xCB, 0x52]
  | .bit_2_e => [0xCB, 0x53]
  | .bit_2_h => [0xCB, 0x54]
  | .bit_2_l => [0xCB, 0x55]
  | .bit_2_mhl => [0xCB, 0x56]
  | .bit_2_a => [0xCB, 0x57]
  | .bit_3_b => [0xCB, 0x58]
  | .bit_3_c => [0xCB, 0x59]
  | .bit_3_d => [0xCB, 0x5A]
  | .bit_3_e => [0xCB, 0x5B]
  | .bit_3_h => [0xCB, 0x5C]
  | .bit_3_l => [0xCB, 0x5D]
  | .bit_3_mhl => [0xCB, 0x5E]
  | .bit_3_a => [0xCB, 0x5F]
  | .bit_4_b => [0xCB, 0x60]
  | .bit_4_c => [0xCB, 0x61]
  | .bit_4_d => [0xCB, 0x62]
  | .bit_4_e => [0xCB, 0x63]
  | .bit_4_h => [0xCB, 0x64]
  | .bit_4_l => [0xCB, 0x65]
  | .bit_4_mhl => [0xCB, 0x66]
  | .bit_4_a => [0xCB, 0x67]
  | .bit_5_b => [0xCB, 0x68]
  | .bit_5_c => [0xCB, 0x69]
  | .bit_5_d => [0xCB, 0x6A]
  | .bit_5_e => [0xCB, 0x6B]
  | .bit_5_h => [0xCB, 0x6C]
  | .bit_5_l => [0xCB, 0x6D]
  | .bit_5_mhl => [0xCB, 0x6E]
  | .bit_5_a => [0xCB, 0x6F]
  | .bit_6_b => [0xCB, 0x70]
  | .bit_6_c => [0xCB, 0x71]
  | .bit_6_d => [0xCB, 0x72]
  | .bit_6_e => [0xCB, 0x73]
  | .bit_6_h => [0xCB, 0x74]
  | .bit_6_l => [0xCB, 0x75]
  | .bit_6_mhl => [0xCB, 0x76]
  | .bit_6_a => [0xCB, 0x77]
  | .bit_7_b => [0xCB, 0x78]
  | .bit_7_c => [0xCB, 0x79]
  | .bit_7_d => [0xCB, 0x7A]
  | .bit_7_e => [0xCB, 0x7B]
  | .bit_7_h => [0xCB, 0x7C]
  | .bit_7_l => [0xCB, 0x7D]
  | .bit_7_mhl => [0xCB, 0x7E]
  | .bit_7_a => [0xCB, 0x7F]
  | .res_0_b => [0xCB, 0x80]
  | .res_0_c => [0xCB, 0x81]
  | .res_0_d => [0xCB, 0x82]
  | .res_0_e => [0xCB, 0x83]
  | .res_0_h => [0xCB, 0x84]
  | .res_0_l => [0xCB, 0x85]
  | .res_0_mhl => [0xCB, 0x86]
  | .res_0_a => [0xCB, 0x87]
  | .res_1_b => [0xCB, 0x88]
  | .res_1_c => [0xCB, 0x89]
  | .res_1_d => [0xCB, 0x8A]
  | .res_1_e => [0xCB, 0x8B]
  | .res_1_h => [0xCB, 0x8C]
  | .res_1_l => [0xCB, 0x8D]
  | .res_1_mhl => [0xCB, 0x8E]
  | .res_1_a => [0xCB, 0x8F]
  | .res_2_b => [0xCB, 0x90]
  | .res_2_c => [0xCB, 0x91]
  | .res_2_d => [0xCB, 0x92]
  | .res_2_e => [0xCB, 0x93]
  | .res_2_h => [0xCB, 0x94]
  | .res_2_l => [0xCB, 0x95]
  | .res_2_mhl => [0xCB, 0x96]
  | .res_2_a => [0xCB, 0x97]
  | .res_3_b => [0xCB, 0x98]
  | .res_3_c => [0xCB, 0x99]
  | .res_3_d => [0xCB, 0x9A]
  | .res_3_e => [0xCB, 0x9B]
  | .res_3_h => [0xCB, 0x9C]
  | .res_3_l => [0xCB, 0x9D]
  | .res_3_mhl => [0xCB, 0x9E]
  | .res_3_a => [0xCB, 0x9F]
  | .res_4_b => [0xCB, 0xA0]
  | .res_4_c => [0xCB, 0xA1]
  | .res_4_d => [0xCB, 0xA2]
  | .res_4_e => [0xCB, 0xA3]
  | .res_4_h => [0xCB, 0xA4]
  | .res_4_l => [0xCB, 0xA5]
  | .res_4_mhl => [0xCB, 0xA6]
  | .res_4_a => [0xCB, 0xA7]
  | .res_5_b => [0xCB, 0xA8]
  | .res_5_c => [0xCB, 0xA9]
  | .res_5_d => [0xCB, 0xAA]
  | .res_5_e => [0xCB, 0xAB]
  | .res_5_h => [0xCB, 0xAC]
  | .res_5_l => [0xCB, 0xAD]
  | .res_5_mhl => [0xCB, 0xAE]
  | .res_5_a => [0xCB, 0xAF]
  | .res_6_b => [0xCB, 0xB0]
  | .res_6_c => [0xCB, 0xB1]
  | .res_6_d => [0xCB, 0xB2]
  | .res_6_e => [0xCB, 0xB3]
  | .res_6_h => [0xCB, 0xB4]
  | .res_6_l => [0xCB, 0xB5]
  | .res_6_mhl => [0xCB, 0xB6]
  | .res_6_a => [0xCB, 0xB7]
  | .res_7_b => [0xCB, 0xB8]
  | .res_7_c => [0xCB, 0xB9]
  | .res_7_d => [0xCB, 0xBA]
  | .res_7_e => [0xCB, 0xBB]
  | .res_7_h => [0xCB, 0xBC]
  | .res_7_l => [0xCB, 0xBD]
  | .res_7_mhl => [0xCB, 0xBE]
  | .res_7_a => [0xCB, 0xBF]
  | .set_0_b => [0xCB, 0xC0]
  | .set_0_c => [0xCB, 0xC1]
  | .set_0_d => [0xCB, 0xC2]
  | .set_0_e => [0xCB, 0xC3]
  | .set_0_h => [0xCB, 0xC4]
  | .set_0_l => [0xCB, 0xC5]
  | .set_0_mhl => [0xCB, 0xC6]
  | .set_0_a => [0xCB, 0xC7]
  | .set_1_b => [0xCB, 0xC8]
  | .set_1_c => [0xCB, 0xC9]
  | .set_1_d => [0xCB, 0xCA]
  | .set_1_e => [0xCB, 0xCB]
  | .set_1_h => [0xCB, 0xCC]
  | .set_1_l => [0xCB, 0xCD]
  | .set_1_mhl => [0xCB, 0xCE]
  | .set_1_a => [0xCB, 0xCF]
  | .set_2_b => [0xCB, 0xD0]
  | .set_2_c => [0xCB, 0xD1]
  | .set_2_d => [0xCB, 0xD2]
  | .set_2_e => [0xCB, 0xD3]
  | .set_2_h => [0xCB, 0xD4]
  | .set_2_l => [0xCB, 0xD5]
  | .set_2_mhl => [0xCB, 0xD6]
  | .set_2_a => [0xCB, 0xD7]
  | .set_3_b => [0xCB, 0xD8]
  | .set_3_c => [0xCB, 0xD9]
  | .set_3_d => [0xCB, 0xDA]
  | .set_3_e => [0xCB, 0xDB]
  | .set_3_h => [0xCB, 0xDC]
  | .set_3_l => [0xCB, 0xDD]
  | .set_3_mhl => [0xCB, 0xDE]
  | .set_3_a => [0xCB, 0xDF]
  | .set_4_b => [0xCB, 0xE0]
  | .set_4_c => [0xCB, 0xE1]
  | .set_4_d => [0xCB, 0xE2]
  | .set_4_e => [0xCB, 0xE3]
  | .set_4_h => [0xCB, 0xE4]
  | .set_4_l => [0xCB, 0xE5]
  | .set_4_mhl => [0xCB, 0xE6]
  | .set_4_a => [0xCB, 0xE7]
  | .set_5_b => [0xCB, 0xE8]
  | .set_5_c => [0xCB, 0xE9]
  | .set_5_d => [0xCB, 0xEA]
  | .set_5_e => [0xCB, 0xEB]
  | .set_5_h => [0xCB, 0xEC]
  | .set_5_l => [0xCB, 0xED]
  | .set_5_mhl => [0xCB, 0xEE]
  | .set_5_a => [0xCB, 0xEF]
  | .set_6_b => [0xCB, 0xF0]
  | .set_6_c => [0xCB, 0xF1]
  | .set_6_d => [0xCB, 0xF2]
  | .set_6_e => [0xCB, 0xF3]
  | .set_6_h => [0xCB, 0xF4]
  | .set_6_l => [0xCB, 0xF5]
  | .set_6_mhl => [0xCB, 0xF6]
  | .set_6_a => [0xCB, 0xF7]
  | .set_7_b => [0xCB, 0xF8]
  | .set_7_c => [0xCB, 0xF9]
  | .set_7_d => [0xCB, 0xFA]
  | .set_7_e => [0xCB, 0xFB]
  | .set_7_h => [0xCB, 0xFC]
  | .set_7_l => [0xCB, 0xFD]
  | .set_7_mhl => [0xCB, 0xFE]
  | .set_7_a => [0xCB, 0xFF]

/-- The length of an instruction in bytes (R132): 1, 2 or 3. -/
def Instr.length (i : Instr) : Nat := (encode i).length

/-- Decoding a byte string: the instruction it starts with and the bytes after it, or why there is none. -/
def decode (bs : List Byte) : Except DecodeError (Instr × List Byte) :=
  match bs with
  | [] => .error .empty
  | b0 :: rest =>
    let i := decode3 b0 (rest.getD 0 0) (rest.getD 1 0)
    if i.length ≤ bs.length then .ok (i, bs.drop i.length) else .error (.truncated b0)

/-- The instruction read from the bits `w`, `nbits` of them, numbered as the opcode table numbers them: the
first byte in bits 7 to 0, the next in bits 15 to 8; every bit above `nbits` is 0. -/
def decodeTableWord (nbits w : Nat) : Option Instr :=
  let v := w % 2 ^ nbits
  match decode [BitVec.ofNat 8 v, BitVec.ofNat 8 (v / 256), BitVec.ofNat 8 (v / 65536)] with
  | .ok (i, _) => some i
  | .error _ => none

/-! ### The cost table (R142, R143, R432) -/

/-- The cost in M-cycles of an instruction's first Command (R313): the whole cost, or the not-taken cost of a
conditional transfer. The prefix byte and an unmapped byte cost nothing by themselves (R138, R139). -/
def Instr.cost : Instr → Nat
  | .nop => 1
  | .ld_bc_nn _ => 3
  | .ld_mbc_a => 2
  | .inc_bc => 2
  | .inc_b => 1
  | .dec_b => 1
  | .ld_b_n _ => 2
  | .rlca => 1
  | .ld_mnn_sp _ => 5
  | .add_hl_bc => 2
  | .ld_a_mbc => 2
  | .dec_bc => 2
  | .inc_c => 1
  | .dec_c => 1
  | .ld_c_n _ => 2
  | .rrca => 1
  | .stop _ => 1
  | .ld_de_nn _ => 3
  | .ld_mde_a => 2
  | .inc_de => 2
  | .inc_d => 1
  | .dec_d => 1
  | .ld_d_n _ => 2
  | .rla => 1
  | .jr_e _ => 3
  | .add_hl_de => 2
  | .ld_a_mde => 2
  | .dec_de => 2
  | .inc_e => 1
  | .dec_e => 1
  | .ld_e_n _ => 2
  | .rra => 1
  | .jr_nz_e _ => 2
  | .ld_hl_nn _ => 3
  | .ld_mhli_a => 2
  | .inc_hl => 2
  | .inc_h => 1
  | .dec_h => 1
  | .ld_h_n _ => 2
  | .daa => 1
  | .jr_z_e _ => 2
  | .add_hl_hl => 2
  | .ld_a_mhli => 2
  | .dec_hl => 2
  | .inc_l => 1
  | .dec_l => 1
  | .ld_l_n _ => 2
  | .cpl => 1
  | .jr_nc_e _ => 2
  | .ld_sp_nn _ => 3
  | .ld_mhld_a => 2
  | .inc_sp => 2
  | .inc_mhl => 3
  | .dec_mhl => 3
  | .ld_mhl_n _ => 3
  | .scf => 1
  | .jr_c_e _ => 2
  | .add_hl_sp => 2
  | .ld_a_mhld => 2
  | .dec_sp => 2
  | .inc_a => 1
  | .dec_a => 1
  | .ld_a_n _ => 2
  | .ccf => 1
  | .ld_b_b => 1
  | .ld_b_c => 1
  | .ld_b_d => 1
  | .ld_b_e => 1
  | .ld_b_h => 1
  | .ld_b_l => 1
  | .ld_b_mhl => 2
  | .ld_b_a => 1
  | .ld_c_b => 1
  | .ld_c_c => 1
  | .ld_c_d => 1
  | .ld_c_e => 1
  | .ld_c_h => 1
  | .ld_c_l => 1
  | .ld_c_mhl => 2
  | .ld_c_a => 1
  | .ld_d_b => 1
  | .ld_d_c => 1
  | .ld_d_d => 1
  | .ld_d_e => 1
  | .ld_d_h => 1
  | .ld_d_l => 1
  | .ld_d_mhl => 2
  | .ld_d_a => 1
  | .ld_e_b => 1
  | .ld_e_c => 1
  | .ld_e_d => 1
  | .ld_e_e => 1
  | .ld_e_h => 1
  | .ld_e_l => 1
  | .ld_e_mhl => 2
  | .ld_e_a => 1
  | .ld_h_b => 1
  | .ld_h_c => 1
  | .ld_h_d => 1
  | .ld_h_e => 1
  | .ld_h_h => 1
  | .ld_h_l => 1
  | .ld_h_mhl => 2
  | .ld_h_a => 1
  | .ld_l_b => 1
  | .ld_l_c => 1
  | .ld_l_d => 1
  | .ld_l_e => 1
  | .ld_l_h => 1
  | .ld_l_l => 1
  | .ld_l_mhl => 2
  | .ld_l_a => 1
  | .ld_mhl_b => 2
  | .ld_mhl_c => 2
  | .ld_mhl_d => 2
  | .ld_mhl_e => 2
  | .ld_mhl_h => 2
  | .ld_mhl_l => 2
  | .halt => 1
  | .ld_mhl_a => 2
  | .ld_a_b => 1
  | .ld_a_c => 1
  | .ld_a_d => 1
  | .ld_a_e => 1
  | .ld_a_h => 1
  | .ld_a_l => 1
  | .ld_a_mhl => 2
  | .ld_a_a => 1
  | .add_a_b => 1
  | .add_a_c => 1
  | .add_a_d => 1
  | .add_a_e => 1
  | .add_a_h => 1
  | .add_a_l => 1
  | .add_a_mhl => 2
  | .add_a_a => 1
  | .adc_a_b => 1
  | .adc_a_c => 1
  | .adc_a_d => 1
  | .adc_a_e => 1
  | .adc_a_h => 1
  | .adc_a_l => 1
  | .adc_a_mhl => 2
  | .adc_a_a => 1
  | .sub_b => 1
  | .sub_c => 1
  | .sub_d => 1
  | .sub_e => 1
  | .sub_h => 1
  | .sub_l => 1
  | .sub_mhl => 2
  | .sub_a => 1
  | .sbc_a_b => 1
  | .sbc_a_c => 1
  | .sbc_a_d => 1
  | .sbc_a_e => 1
  | .sbc_a_h => 1
  | .sbc_a_l => 1
  | .sbc_a_mhl => 2
  | .sbc_a_a => 1
  | .and_b => 1
  | .and_c => 1
  | .and_d => 1
  | .and_e => 1
  | .and_h => 1
  | .and_l => 1
  | .and_mhl => 2
  | .and_a => 1
  | .xor_b => 1
  | .xor_c => 1
  | .xor_d => 1
  | .xor_e => 1
  | .xor_h => 1
  | .xor_l => 1
  | .xor_mhl => 2
  | .xor_a => 1
  | .or_b => 1
  | .or_c => 1
  | .or_d => 1
  | .or_e => 1
  | .or_h => 1
  | .or_l => 1
  | .or_mhl => 2
  | .or_a => 1
  | .cp_b => 1
  | .cp_c => 1
  | .cp_d => 1
  | .cp_e => 1
  | .cp_h => 1
  | .cp_l => 1
  | .cp_mhl => 2
  | .cp_a => 1
  | .ret_nz => 2
  | .pop_bc => 3
  | .jp_nz_nn _ => 3
  | .jp_nn _ => 4
  | .call_nz_nn _ => 3
  | .push_bc => 4
  | .add_a_n _ => 2
  | .rst_00 => 4
  | .ret_z => 2
  | .ret => 4
  | .jp_z_nn _ => 3
  | .prefix_cb => 0
  | .call_z_nn _ => 3
  | .call_nn _ => 6
  | .adc_a_n _ => 2
  | .rst_08 => 4
  | .ret_nc => 2
  | .pop_de => 3
  | .jp_nc_nn _ => 3
  | .illegal_d3 => 0
  | .call_nc_nn _ => 3
  | .push_de => 4
  | .sub_n _ => 2
  | .rst_10 => 4
  | .ret_c => 2
  | .reti => 4
  | .jp_c_nn _ => 3
  | .illegal_db => 0
  | .call_c_nn _ => 3
  | .illegal_dd => 0
  | .sbc_a_n _ => 2
  | .rst_18 => 4
  | .ldh_mn_a _ => 3
  | .pop_hl => 3
  | .ldh_mc_a => 2
  | .illegal_e3 => 0
  | .illegal_e4 => 0
  | .push_hl => 4
  | .and_n _ => 2
  | .rst_20 => 4
  | .add_sp_e _ => 4
  | .jp_hl => 1
  | .ld_mnn_a _ => 4
  | .illegal_eb => 0
  | .illegal_ec => 0
  | .illegal_ed => 0
  | .xor_n _ => 2
  | .rst_28 => 4
  | .ldh_a_mn _ => 3
  | .pop_af => 3
  | .ldh_a_mc => 2
  | .di => 1
  | .illegal_f4 => 0
  | .push_af => 4
  | .or_n _ => 2
  | .rst_30 => 4
  | .ld_hl_sp_e _ => 3
  | .ld_sp_hl => 2
  | .ld_a_mnn _ => 4
  | .ei => 1
  | .illegal_fc => 0
  | .illegal_fd => 0
  | .cp_n _ => 2
  | .rst_38 => 4
  | .rlc_b => 2
  | .rlc_c => 2
  | .rlc_d => 2
  | .rlc_e => 2
  | .rlc_h => 2
  | .rlc_l => 2
  | .rlc_mhl => 4
  | .rlc_a => 2
  | .rrc_b => 2
  | .rrc_c => 2
  | .rrc_d => 2
  | .rrc_e => 2
  | .rrc_h => 2
  | .rrc_l => 2
  | .rrc_mhl => 4
  | .rrc_a => 2
  | .rl_b => 2
  | .rl_c => 2
  | .rl_d => 2
  | .rl_e => 2
  | .rl_h => 2
  | .rl_l => 2
  | .rl_mhl => 4
  | .rl_a => 2
  | .rr_b => 2
  | .rr_c => 2
  | .rr_d => 2
  | .rr_e => 2
  | .rr_h => 2
  | .rr_l => 2
  | .rr_mhl => 4
  | .rr_a => 2
  | .sla_b => 2
  | .sla_c => 2
  | .sla_d => 2
  | .sla_e => 2
  | .sla_h => 2
  | .sla_l => 2
  | .sla_mhl => 4
  | .sla_a => 2
  | .sra_b => 2
  | .sra_c => 2
  | .sra_d => 2
  | .sra_e => 2
  | .sra_h => 2
  | .sra_l => 2
  | .sra_mhl => 4
  | .sra_a => 2
  | .swap_b => 2
  | .swap_c => 2
  | .swap_d => 2
  | .swap_e => 2
  | .swap_h => 2
  | .swap_l => 2
  | .swap_mhl => 4
  | .swap_a => 2
  | .srl_b => 2
  | .srl_c => 2
  | .srl_d => 2
  | .srl_e => 2
  | .srl_h => 2
  | .srl_l => 2
  | .srl_mhl => 4
  | .srl_a => 2
  | .bit_0_b => 2
  | .bit_0_c => 2
  | .bit_0_d => 2
  | .bit_0_e => 2
  | .bit_0_h => 2
  | .bit_0_l => 2
  | .bit_0_mhl => 3
  | .bit_0_a => 2
  | .bit_1_b => 2
  | .bit_1_c => 2
  | .bit_1_d => 2
  | .bit_1_e => 2
  | .bit_1_h => 2
  | .bit_1_l => 2
  | .bit_1_mhl => 3
  | .bit_1_a => 2
  | .bit_2_b => 2
  | .bit_2_c => 2
  | .bit_2_d => 2
  | .bit_2_e => 2
  | .bit_2_h => 2
  | .bit_2_l => 2
  | .bit_2_mhl => 3
  | .bit_2_a => 2
  | .bit_3_b => 2
  | .bit_3_c => 2
  | .bit_3_d => 2
  | .bit_3_e => 2
  | .bit_3_h => 2
  | .bit_3_l => 2
  | .bit_3_mhl => 3
  | .bit_3_a => 2
  | .bit_4_b => 2
  | .bit_4_c => 2
  | .bit_4_d => 2
  | .bit_4_e => 2
  | .bit_4_h => 2
  | .bit_4_l => 2
  | .bit_4_mhl => 3
  | .bit_4_a => 2
  | .bit_5_b => 2
  | .bit_5_c => 2
  | .bit_5_d => 2
  | .bit_5_e => 2
  | .bit_5_h => 2
  | .bit_5_l => 2
  | .bit_5_mhl => 3
  | .bit_5_a => 2
  | .bit_6_b => 2
  | .bit_6_c => 2
  | .bit_6_d => 2
  | .bit_6_e => 2
  | .bit_6_h => 2
  | .bit_6_l => 2
  | .bit_6_mhl => 3
  | .bit_6_a => 2
  | .bit_7_b => 2
  | .bit_7_c => 2
  | .bit_7_d => 2
  | .bit_7_e => 2
  | .bit_7_h => 2
  | .bit_7_l => 2
  | .bit_7_mhl => 3
  | .bit_7_a => 2
  | .res_0_b => 2
  | .res_0_c => 2
  | .res_0_d => 2
  | .res_0_e => 2
  | .res_0_h => 2
  | .res_0_l => 2
  | .res_0_mhl => 4
  | .res_0_a => 2
  | .res_1_b => 2
  | .res_1_c => 2
  | .res_1_d => 2
  | .res_1_e => 2
  | .res_1_h => 2
  | .res_1_l => 2
  | .res_1_mhl => 4
  | .res_1_a => 2
  | .res_2_b => 2
  | .res_2_c => 2
  | .res_2_d => 2
  | .res_2_e => 2
  | .res_2_h => 2
  | .res_2_l => 2
  | .res_2_mhl => 4
  | .res_2_a => 2
  | .res_3_b => 2
  | .res_3_c => 2
  | .res_3_d => 2
  | .res_3_e => 2
  | .res_3_h => 2
  | .res_3_l => 2
  | .res_3_mhl => 4
  | .res_3_a => 2
  | .res_4_b => 2
  | .res_4_c => 2
  | .res_4_d => 2
  | .res_4_e => 2
  | .res_4_h => 2
  | .res_4_l => 2
  | .res_4_mhl => 4
  | .res_4_a => 2
  | .res_5_b => 2
  | .res_5_c => 2
  | .res_5_d => 2
  | .res_5_e => 2
  | .res_5_h => 2
  | .res_5_l => 2
  | .res_5_mhl => 4
  | .res_5_a => 2
  | .res_6_b => 2
  | .res_6_c => 2
  | .res_6_d => 2
  | .res_6_e => 2
  | .res_6_h => 2
  | .res_6_l => 2
  | .res_6_mhl => 4
  | .res_6_a => 2
  | .res_7_b => 2
  | .res_7_c => 2
  | .res_7_d => 2
  | .res_7_e => 2
  | .res_7_h => 2
  | .res_7_l => 2
  | .res_7_mhl => 4
  | .res_7_a => 2
  | .set_0_b => 2
  | .set_0_c => 2
  | .set_0_d => 2
  | .set_0_e => 2
  | .set_0_h => 2
  | .set_0_l => 2
  | .set_0_mhl => 4
  | .set_0_a => 2
  | .set_1_b => 2
  | .set_1_c => 2
  | .set_1_d => 2
  | .set_1_e => 2
  | .set_1_h => 2
  | .set_1_l => 2
  | .set_1_mhl => 4
  | .set_1_a => 2
  | .set_2_b => 2
  | .set_2_c => 2
  | .set_2_d => 2
  | .set_2_e => 2
  | .set_2_h => 2
  | .set_2_l => 2
  | .set_2_mhl => 4
  | .set_2_a => 2
  | .set_3_b => 2
  | .set_3_c => 2
  | .set_3_d => 2
  | .set_3_e => 2
  | .set_3_h => 2
  | .set_3_l => 2
  | .set_3_mhl => 4
  | .set_3_a => 2
  | .set_4_b => 2
  | .set_4_c => 2
  | .set_4_d => 2
  | .set_4_e => 2
  | .set_4_h => 2
  | .set_4_l => 2
  | .set_4_mhl => 4
  | .set_4_a => 2
  | .set_5_b => 2
  | .set_5_c => 2
  | .set_5_d => 2
  | .set_5_e => 2
  | .set_5_h => 2
  | .set_5_l => 2
  | .set_5_mhl => 4
  | .set_5_a => 2
  | .set_6_b => 2
  | .set_6_c => 2
  | .set_6_d => 2
  | .set_6_e => 2
  | .set_6_h => 2
  | .set_6_l => 2
  | .set_6_mhl => 4
  | .set_6_a => 2
  | .set_7_b => 2
  | .set_7_c => 2
  | .set_7_d => 2
  | .set_7_e => 2
  | .set_7_h => 2
  | .set_7_l => 2
  | .set_7_mhl => 4
  | .set_7_a => 2

/-- What the continuation of a conditional transfer adds to its cost when it is taken (R142: taken minus
not taken). -/
def Instr.takenExtra : Instr → Nat
  | .jr_nz_e _ | .jr_z_e _ | .jr_nc_e _ | .jr_c_e _ => 1
  | .jp_nz_nn _ | .jp_z_nn _ | .jp_nc_nn _ | .jp_c_nn _ => 1
  | .call_nz_nn _ | .call_z_nn _ | .call_nc_nn _ | .call_c_nn _ => 3
  | .ret_nz | .ret_z | .ret_nc | .ret_c => 3
  | _ => 0

end Sys2Proof
end

