-- ==== Sys2Proof/Machine/Costs.lean ====
section
/-! DEFINITION. The two parameters of the run loop that the meanings do not see: the cost table (R432) and the cut
of an instruction into Commands (R313). A meaning charges the spec's own cost; the run loop settles the difference
to the machine's cost before a Command runs. -/

namespace Sys2Proof.Machine

/-- The instruction a Command belongs to: its row in a table of costs or cuts. -/
def Command.instr : Command → Instr
  | .after _ next => next.instr
  | .exec i => i
  | .jumpTo cc target => .jpCondForm cc target
  | .jumpBy cc e => .jrCondForm cc e
  | .callTo cc target => .callCondForm cc target
  | .ret cc => .retCondForm cc
  | .haltWait => .halt
  | .stopWait => .stop 0

/-- The row of an instruction: is it prefixed by 0xCB, and its opcode byte (R138, R142, R143). -/
def Instr.row (i : Instr) : Bool × Byte :=
  match encode i with
  | [] => (false, 0)
  | b :: rest =>
    match rest with
    | [] => (false, b)
    | op :: _ => if b = 0xCB then (true, op) else (false, b)

/-- The spec's cost of a Command (R142, R143, R259, R272 to R279). -/
def Command.cost (c : Command) : Nat :=
  match c with
  | .after n _ => n
  | .exec i => i.cost
  | .jumpTo _ _ | .jumpBy _ _ | .callTo _ _ | .ret _ => c.instr.takenExtra
  | .haltWait | .stopWait => c.instr.cost

/-- The row of the parameter that replaces this instruction's costs, if one does (R432). -/
def State.costRow (s : State) (i : Instr) : Option Config.CostRow :=
  s.params.costs.find? fun r => (r.prefixed, r.opcode) == Instr.row i

/-- The machine's cost of an instruction's first Command (R432): the not-taken cost of a conditional transfer. -/
def State.firstCost (s : State) (i : Instr) : Nat :=
  match s.costRow i with
  | some r => r.cost
  | none => i.cost

/-- What the machine adds for a taken conditional transfer (R432). -/
def State.takenCost (s : State) (i : Instr) : Nat :=
  match s.costRow i with
  | some r => r.takenExtra
  | none => i.takenExtra

/-- The row of `STEP_PARTITION` that cuts this instruction, if one does (R313). The prefix byte and the unmapped
bytes are no instructions and are not cut. -/
def State.cutRow (s : State) (i : Instr) : Option Config.CutRow :=
  if i.cost = 0 then none else s.params.partition.find? fun r => (r.prefixed, r.opcode) == Instr.row i

/-- The costs of the micro-ops that come before this Command (R313); none under the cut of D4. -/
def State.lead (s : State) (c : Command) : List Nat :=
  match s.cutRow c.instr with
  | none => []
  | some r =>
    match c with
    | .exec _ => r.lead
    | .jumpTo _ _ | .jumpBy _ _ | .callTo _ _ | .ret _ => r.takenLead
    | .after _ _ | .haltWait | .stopWait => []

/-- The chain that ends in this Command (R311, R313): the Command itself under the cut of D4. -/
def State.cut (s : State) (c : Command) : Command := (s.lead c).foldr .after c

/-- The machine's cost of a Command: what the micro-ops before it leave of the cost its row gives. -/
def State.commandCost (s : State) (c : Command) : Nat :=
  match c with
  | .after n _ => n
  | .exec i => s.firstCost i - (s.lead c).sum
  | .jumpTo _ _ | .jumpBy _ _ | .callTo _ _ | .ret _ => s.takenCost c.instr - (s.lead c).sum
  | .haltWait | .stopWait => s.firstCost c.instr

/-- The credit settled for a Command about to run (R432): with its own charge of the spec's cost it then pays the
machine's cost. -/
def State.settle (s : State) (c : Command) : State :=
  { s with cpu := { s.cpu with credit := s.cpu.credit + c.cost - s.commandCost c } }

end Sys2Proof.Machine
end

