-- ==== Sys2Proof/Machine/Flags.lean ====
section
/-! DEFINITION. Every flag computation of the instruction set, each beside the value it belongs to, as the
spec's primitives give them: exact arithmetic on integers, narrowed at the end (R9). No state here. -/

namespace Sys2Proof.Machine

/-- The byte `F`: `Z N H C` in bits 7 to 4, bits 3 to 0 zero (R22). -/
def Flags.toByte (f : Flags) : Byte :=
  BitVec.ofNat 8 (0x80 * f.z.toNat + 0x40 * f.n.toNat + 0x20 * f.h.toNat + 0x10 * f.c.toNat)

/-- Writing `F`: bits 7 to 4 into the flags, bits 3 to 0 discarded (R22, D40). -/
def Flags.ofByte (v : Byte) : Flags :=
  { z := v.getLsbD 7, n := v.getLsbD 6, h := v.getLsbD 5, c := v.getLsbD 4 }

/-- A byte result with the flags it leaves. -/
structure AluResult where
  value : Byte
  flags : Flags
deriving DecidableEq, Repr

/-- `add8(a, b, cin)` (R211). -/
def add8 (a b : Byte) (cin : Bool) : AluResult :=
  let sum := a.toNat + b.toNat + cin.toNat
  let value := BitVec.ofNat 8 sum
  { value := value,
    flags := { z := value == 0, n := false,
               h := decide (a.toNat % 16 + b.toNat % 16 + cin.toNat > 0x0F), c := decide (sum > 0xFF) } }

/-- `sub8(a, b, cin)` (R212). -/
def sub8 (a b : Byte) (cin : Bool) : AluResult :=
  let diff : Int := (a.toNat : Int) - b.toNat - cin.toNat
  let value := BitVec.ofInt 8 diff
  { value := value,
    flags := { z := value == 0, n := true,
               h := decide (((a.toNat % 16 : Nat) : Int) - (b.toNat % 16 : Nat) - cin.toNat < 0),
               c := decide (diff < 0) } }

/-- `AND` (R217): `H` is always set. -/
def and8 (a b : Byte) : AluResult :=
  { value := a &&& b, flags := { z := a &&& b == 0, n := false, h := true, c := false } }

/-- `XOR` (R218). -/
def xor8 (a b : Byte) : AluResult :=
  { value := a ^^^ b, flags := { z := a ^^^ b == 0, n := false, h := false, c := false } }

/-- `OR` (R219). -/
def or8 (a b : Byte) : AluResult :=
  { value := a ||| b, flags := { z := a ||| b == 0, n := false, h := false, c := false } }

/-- `INC` of a byte (R221, R222): `C` is kept. -/
def inc8 (old : Byte) (f : Flags) : AluResult :=
  let value := old + 1
  { value := value, flags := { z := value == 0, n := false, h := decide (old.toNat % 16 = 0x0F), c := f.c } }

/-- `DEC` of a byte (R223, R224): `C` is kept. -/
def dec8 (old : Byte) (f : Flags) : AluResult :=
  let value := old - 1
  { value := value, flags := { z := value == 0, n := true, h := decide (old.toNat % 16 = 0), c := f.c } }

/-- A boolean as the byte 0 or 1. -/
def bit8 (c : Bool) : Byte := BitVec.ofNat 8 c.toNat

/-- The flags every rotate and shift of the 0xCB page leaves: `Z` from the result, `N = H = 0`, `C` given (R290). -/
def shiftResult (r : Byte) (c : Bool) : AluResult :=
  { value := r, flags := { z := r == 0, n := false, h := false, c := c } }

/-- `RLC` (R291). -/
def rlc8 (v : Byte) : AluResult := shiftResult ((v <<< 1) ||| bit8 (v.getLsbD 7)) (v.getLsbD 7)

/-- `RRC` (R292). -/
def rrc8 (v : Byte) : AluResult := shiftResult ((v >>> 1) ||| (bit8 (v.getLsbD 0) <<< 7)) (v.getLsbD 0)

/-- `RL` (R293); `cin` is the old carry. -/
def rl8 (v : Byte) (cin : Bool) : AluResult := shiftResult ((v <<< 1) ||| bit8 cin) (v.getLsbD 7)

/-- `RR` (R294); `cin` is the old carry. -/
def rr8 (v : Byte) (cin : Bool) : AluResult := shiftResult ((v >>> 1) ||| (bit8 cin <<< 7)) (v.getLsbD 0)

/-- `SLA` (R295). -/
def sla8 (v : Byte) : AluResult := shiftResult (v <<< 1) (v.getLsbD 7)

/-- `SRA` (R296). -/
def sra8 (v : Byte) : AluResult := shiftResult ((v >>> 1) ||| (v &&& 0x80)) (v.getLsbD 0)

/-- `SWAP` (R297): `C = 0`. -/
def swap8 (v : Byte) : AluResult := shiftResult (((v <<< 4) &&& 0xF0) ||| (v >>> 4)) false

/-- `SRL` (R298). -/
def srl8 (v : Byte) : AluResult := shiftResult (v >>> 1) (v.getLsbD 0)

/-- The one-byte accumulator rotates clear `Z` whatever the result (R250 to R253). -/
def clearZ (r : AluResult) : AluResult := { r with flags := { r.flags with z := false } }

/-- The flags of `BIT b` (R299): `C` is kept. -/
def bitFlags (v : Byte) (b : Nat) (f : Flags) : Flags :=
  { z := !v.getLsbD b, n := false, h := true, c := f.c }

/-- `RES b` (R300). -/
def resBit (v : Byte) (b : Nat) : Byte := v &&& ~~~((1 : Byte) <<< b)

/-- `SET b` (R301). -/
def setBit (v : Byte) (b : Nat) : Byte := v ||| ((1 : Byte) <<< b)

/-- `DAA` (R254): both tests of the addition branch use `A` before the adjustment. -/
def daa8 (a : Byte) (f : Flags) : AluResult :=
  if f.n then
    let adj : Byte := (if f.h then 0x06 else 0) ||| (if f.c then 0x60 else 0)
    let value := a - adj
    { value := value, flags := { z := value == 0, n := true, h := false, c := f.c } }
  else
    let low := f.h || decide (a.toNat % 16 > 0x09)
    let high := f.c || decide (a.toNat > 0x99)
    let adj : Byte := (if low then 0x06 else 0) ||| (if high then 0x60 else 0)
    let value := a + adj
    { value := value, flags := { z := value == 0, n := false, h := false, c := high } }

/-- The flags of `ADD HL,rr` (R240): `Z` is kept, `H` the carry out of bit 11, `C` out of bit 15. -/
def addHlFlags (a b : Word) (f : Flags) : Flags :=
  { z := f.z, n := false, h := decide (a.toNat % 4096 + b.toNat % 4096 > 0x0FFF),
    c := decide (a.toNat + b.toNat > 0xFFFF) }

/-- The flags of `ADD SP,e` and `LD HL,SP+e` (R193, R243): on the unsigned addition of the low byte of `SP`
and the raw byte `e`. -/
def addSpFlags (sp : Word) (e : Byte) : Flags :=
  { z := false, n := false, h := decide (sp.toNat % 16 + e.toNat % 16 > 0x0F),
    c := decide (sp.toNat % 256 + e.toNat > 0xFF) }

end Sys2Proof.Machine
end

