-- ==== Sys2Proof/Machine/Ops.lean ====
section
/-! DEFINITION. The named operations over registers, memory and the bus: register access (R20 to R26), the MMU's
first-match resolution (R60 to R84), the write subscribers (R95 to R97, R340, R362 to R368), words and the
stack (R76, R77, R10), and taking an interrupt (R320 to R323) with the return from one beside it (R280). -/

namespace Sys2Proof.Machine

/-- Go on with `f` from the next state; a fault or a refusal ends the step (R330). -/
def andThen (r : Result) (f : State → Result) : Result :=
  match r with
  | .next s => f s
  | .fault x => .fault x
  | .refused x => .refused x

/-! ### CPU registers -/

/-- Read an 8-bit register (R20). -/
def State.reg (s : State) (r : Reg8) : Byte :=
  match r with
  | .b => s.cpu.b
  | .c => s.cpu.c
  | .d => s.cpu.d
  | .e => s.cpu.e
  | .h => s.cpu.h
  | .l => s.cpu.l
  | .a => s.cpu.a

/-- Write an 8-bit register (R20). -/
def State.setReg (s : State) (r : Reg8) (v : Byte) : State :=
  match r with
  | .b => { s with cpu := { s.cpu with b := v } }
  | .c => { s with cpu := { s.cpu with c := v } }
  | .d => { s with cpu := { s.cpu with d := v } }
  | .e => { s with cpu := { s.cpu with e := v } }
  | .h => { s with cpu := { s.cpu with h := v } }
  | .l => { s with cpu := { s.cpu with l := v } }
  | .a => { s with cpu := { s.cpu with a := v } }

/-- Write the four flags (R23). -/
def State.setFlags (s : State) (f : Flags) : State := { s with cpu := { s.cpu with f := f } }

/-- Write `SP` (R24). -/
def State.setSp (s : State) (w : Word) : State := { s with cpu := { s.cpu with sp := w } }

/-- Write `PC` (R25). -/
def State.setPc (s : State) (w : Word) : State := { s with cpu := { s.cpu with pc := w } }

/-- Write `IME` (R26). -/
def State.setIme (s : State) (on : Bool) : State := { s with cpu := { s.cpu with ime := on } }

/-- Put a Command at the front of the (empty) micro-op queue, or empty it (R27, R312). -/
def State.setQueue (s : State) (q : Option Command) : State := { s with cpu := { s.cpu with queue := q } }

/-- Subtract `n` M-cycles from the credit (R310). -/
def State.charge (s : State) (n : Nat) : State := { s with cpu := { s.cpu with credit := s.cpu.credit - n } }

/-- A pair of the field `rr` as a word (R21, R133). -/
def State.pair (s : State) (p : Pair) : Word :=
  match p with
  | .bc => word s.cpu.b s.cpu.c
  | .de => word s.cpu.d s.cpu.e
  | .hl => word s.cpu.h s.cpu.l
  | .sp => s.cpu.sp

/-- Write a pair of the field `rr`: both halves (R21). -/
def State.setPair (s : State) (p : Pair) (w : Word) : State :=
  match p with
  | .bc => { s with cpu := { s.cpu with b := hi w, c := lo w } }
  | .de => { s with cpu := { s.cpu with d := hi w, e := lo w } }
  | .hl => { s with cpu := { s.cpu with h := hi w, l := lo w } }
  | .sp => { s with cpu := { s.cpu with sp := w } }

/-- `HL`. -/
def State.hl (s : State) : Word := s.pair .hl

/-- A pair of the field `qq` as a word; `AF` has the flags byte as its low half (R21, R22, R134). -/
def State.stackPair (s : State) (p : StackPair) : Word :=
  match p with
  | .bc => s.pair .bc
  | .de => s.pair .de
  | .hl => s.pair .hl
  | .af => word s.cpu.a s.cpu.f.toByte

/-- Write a pair of the field `qq`; `POP AF` discards bits 3 to 0 of the flags byte (R195, R196). -/
def State.setStackPair (s : State) (p : StackPair) (w : Word) : State :=
  match p with
  | .bc => s.setPair .bc w
  | .de => s.setPair .de w
  | .hl => s.setPair .hl w
  | .af => { s with cpu := { s.cpu with a := hi w, f := Flags.ofByte (lo w) } }

/-- `cond(cc)` (R270). -/
def State.cond (s : State) (cc : Cond) : Bool :=
  match cc with
  | .nz => !s.cpu.f.z
  | .z => s.cpu.f.z
  | .nc => !s.cpu.f.c
  | .c => s.cpu.f.c

/-! ### The MMU: regions and places -/

/-- The regions the MMU can hold (R34, R80). -/
inductive Region where
  | bios | cartridge | tileData | tileMaps | workRam | echo | oam | waveRam | hram | catchAll
deriving DecidableEq, Repr

/-- The MMU's region list in priority order (R80): the BIOS while mapped, the Cartridge when inserted, and the
fixed regions. -/
def State.regions (s : State) : List Region :=
  (if s.biosMapped then [.bios] else []) ++ (if s.cart.isSome then [.cartridge] else []) ++
    [.tileData, .tileMaps, .workRam, .echo, .oam, .waveRam, .hram, .catchAll]

/-- First and last address of a region other than the Cartridge (R61, R80). -/
def Region.range (r : Region) : Nat × Nat :=
  match r with
  | .bios => (0x0000, 0x00FF)
  | .cartridge => (0x0000, 0xBFFF)
  | .tileData => (0x8000, 0x97FF)
  | .tileMaps => (0x9800, 0x9FFF)
  | .workRam => (0xC000, 0xCFFF)
  | .echo => (0xE000, 0xFDFF)
  | .oam => (0xFE00, 0xFE9F)
  | .waveRam => (0xFF30, 0xFF3F)
  | .hram => (0xFF80, 0xFFFE)
  | .catchAll => (0x0000, 0xFFFF)

/-- `contains(addr)` (R61); the Cartridge owns the union of its own regions (R65). -/
def State.regionContains (s : State) (r : Region) (a : Nat) : Bool :=
  match r with
  | .cartridge =>
    match s.cart with
    | some c => c.contains a
    | none => false
  | _ => decide (r.range.1 ≤ a) && decide (a ≤ r.range.2)

/-- First-match resolution (R64). -/
def State.resolve (s : State) (a : Nat) : Option Region := s.regions.find? (fun r => s.regionContains r a)

/-- Where the buffer of a RAM region lies in `State.mem`, and how long it is (R80); the echo shares the buffer of
work RAM (R82). -/
def Region.buffer (r : Region) : Nat × Nat :=
  match r with
  | .workRam | .echo => (0xC000, 0x1000)
  | _ => (r.range.1, r.range.2 - r.range.1 + 1)

/-- The byte of storage an address names at this moment. Two addresses with the same place are mirrors of
each other. -/
inductive Place where
  /-- byte of the BIOS buffer: read-only -/
  | bios (i : Nat)
  /-- byte of the Cartridge's ROM: read-only -/
  | rom (i : Nat)
  /-- byte of the Cartridge's RAM -/
  | cartRam (i : Nat)
  /-- a disabled block: reads 0xFF, ignores writes (R62, R63) -/
  | disabled
  /-- byte of a RAM region or of the catch-all, by its place in `State.mem` or `State.sound` -/
  | ram (k : Nat)
  /-- no region owns the address (unreachable, R72) -/
  | nowhere
deriving DecidableEq, Repr

/-- The Cartridge's place for an address it contains (R66, R86, R87). -/
def Cartridge.place (c : Cartridge) (a : Nat) : Place :=
  if a ≤ 0x7FFF then .rom (c.romOffset a)
  else if c.ramEnabled then .cartRam (c.ramOffset a) else .disabled

/-- Resolve an address to the byte it names (R64, R66, R31: index `(addr - lo) mod length(buffer)`). -/
def State.place (s : State) (a : Word) : Place :=
  match s.resolve a.toNat with
  | none => .nowhere
  | some .bios => .bios a.toNat
  | some .cartridge =>
    match s.cart with
    | some c => c.place a.toNat
    | none => .nowhere
  | some r => .ram (r.buffer.1 + (a.toNat - r.range.1) % r.buffer.2)

/-- Is `k` one of the 48 places the APU may write (R371)? -/
def isSound (k : Nat) : Bool := decide (0xFF10 ≤ k) && decide (k ≤ 0xFF3F)

/-- The byte of a RAM place. -/
def State.ramRead (s : State) (k : Nat) : Byte :=
  if isSound k then s.sound.getD (k - 0xFF10) 0 else Memory.read s.mem k

/-- Store a byte at a RAM place. -/
def State.ramWrite (s : State) (k : Nat) (v : Byte) : State :=
  if isSound k then { s with sound := s.sound.setIfInBounds (k - 0xFF10) v }
  else { s with mem := Memory.write s.mem k v }

/-- The byte at a place (R62). -/
def State.placeRead (s : State) (p : Place) : Byte :=
  match p with
  | .bios i => Memory.biosRead s.bios i
  | .rom i =>
    match s.cart with
    | some c => Memory.read c.rom i
    | none => 0xFF
  | .cartRam i =>
    match s.cart with
    | some c => Memory.read c.ram i
    | none => 0xFF
  | .disabled => 0xFF
  | .ram k => s.ramRead k
  | .nowhere => 0xFF

/-- Store a byte at a place; read-only and disabled blocks ignore it (R63). -/
def State.placeWrite (s : State) (p : Place) (v : Byte) : State :=
  match p with
  | .cartRam i =>
    match s.cart with
    | some c => { s with cart := some { c with ram := Memory.write c.ram i v } }
    | none => s
  | .ram k => s.ramWrite k v
  | _ => s

/-- `MMU.readByte(addr)` = `MemRead(addr, 1)` (R70): no side effect. -/
def State.read (s : State) (a : Word) : Byte := s.placeRead (s.place a)

/-- The Cartridge after its own subscribers saw a write of `v` at `a`, when it is the owner of `a` (R66, R94). -/
def State.cartSelect (s : State) (a : Nat) (v : Byte) : Option Cartridge :=
  match s.resolve a with
  | some .cartridge => s.cart.map (fun c => c.select a v)
  | _ => s.cart

/-- `writeByte(addr, v, publish = false)` (R63, R66, R71), `MemWriteQuiet`: the store, and the Cartridge's own
subscribers; the MMU's do not fire. -/
def State.quiet (s : State) (a : Word) (v : Byte) : State :=
  let t := s.placeWrite (s.place a) v
  { t with cart := t.cartSelect a.toNat v }

/-- Why a write of `v` at `a` ends the run, if it does: no region owns `a` (R71, unreachable by R72), or an
MBC1 bank index goes beyond the last bank and the parameter `MBC1_BANK_OOR` is `fault` (R92). -/
def State.writeFault (s : State) (a : Word) (v : Byte) : Option Fault :=
  match s.resolve a.toNat with
  | none => some (.addressOutOfRange a)
  | some .cartridge =>
    match s.cart with
    | some c =>
      let c' := c.select a.toNat v
      if s.params.bankOor = .fault ∧ c'.outOfRange a.toNat = true then some (.bankOutOfRange c') else none
    | none => none
  | _ => none

/-! ### PPU and interrupt registers, as the subscribers and the devices write them -/

/-- `IF <- IF | mask`, quiet: how a device requests (R324). -/
def State.request (s : State) (mask : Byte) : State := s.quiet 0xFF0F (s.read 0xFF0F ||| mask)

/-- The 2-bit mode field (R353). -/
def PpuMode.toBits : PpuMode → Byte
  | .hBlank => 0
  | .vBlank => 1
  | .oamScan => 2
  | .pixelTransfer => 3

/-- The PPU-owned bits 2 to 0 of `STAT`: coincidence and mode (R353). -/
def Ppu.statBits (p : Ppu) : Byte := (bit8 p.coincidence <<< 2) ||| p.mode.toBits

/-- `setMode(m)` (R353): bits 7 to 3 of `STAT` are kept. -/
def State.setMode (s : State) (m : PpuMode) : State :=
  let t := { s with ppu := { s.ppu with mode := m } }
  t.quiet 0xFF41 ((t.read 0xFF41 &&& 0xF8) ||| t.ppu.statBits)

/-- `statRequest()` where the `STAT` enable bit `b` is set (R354). -/
def State.statRequestIf (s : State) (b : Nat) : State :=
  if (s.read 0xFF41).getLsbD b then s.request 0x02 else s

/-- `coincidenceUpdate()` (R362). -/
def State.coincidenceUpdate (s : State) : State :=
  let co := s.ppu.ly == s.read 0xFF45
  let t := { s with ppu := { s.ppu with coincidence := co } }
  let u := t.quiet 0xFF41 ((t.read 0xFF41 &&& 0xFB) ||| (bit8 co <<< 2))
  if co then u.statRequestIf 6 else u

/-- `lyChanged()` after `ly <- v` (R362). -/
def State.setLy (s : State) (v : Byte) : State :=
  let t := { s with ppu := { s.ppu with ly := v } }
  (t.quiet 0xFF44 v).coincidenceUpdate

/-! ### The MMU's subscribers (R95) -/

/-- S2: append 160 copy Commands behind whatever is queued (R97). -/
def State.startDma (s : State) (v : Byte) : State :=
  { s with dmaQueue := s.dmaQueue ++ (List.range 160).map fun i =>
      { src := word v 0 + BitVec.ofNat 16 i, dst := 0xFE00 + BitVec.ofNat 16 i } }

/-- S3: `MemWriteQuiet(0xFF04, 0x00); divAcc <- 0` (R340). -/
def State.resetDivider (s : State) : State :=
  { s.quiet 0xFF04 0 with timer := { s.timer with divAcc := 0 } }

/-- S4: emit the byte of the serial data register (R368). -/
def State.serialOut (s : State) : State := { s with debugOut := s.debugOut ++ [s.read 0xFF01] }

/-- S5: LCD enable and disable (R365). The Bitmap keeps its contents: DESIGN CHOICE (log 22), since V8 of
93_implementation_defined.md lets the lines not redrawn while the LCD is off be any value. -/
def State.lcdControl (s : State) (v : Byte) : State :=
  let on := v.getLsbD 7
  if s.ppu.lcdOn && !on then
    let t := { s with ppu := { s.ppu with lcdOn := false, credit := 0, nextStep := .oamScan, ly := 0 } }
    (t.setMode .hBlank).setLy 0
  else if !s.ppu.lcdOn && on then
    { s with ppu := { s.ppu with lcdOn := true, credit := 0, nextStep := .oamScan } }
  else s

/-- S6: restore the PPU-owned bits of `STAT` (R364). -/
def State.statWrite (s : State) (v : Byte) : State := s.quiet 0xFF41 ((v &&& 0xF8) ||| s.ppu.statBits)

/-- The MMU's subscribers for a published write of `v` at `a`, after the store (R71, R73, R95). -/
def State.subscribers (s : State) (a : Word) (v : Byte) : State :=
  if a = 0xFF50 then (if v = 0 then s else { s with biosMapped := false })
  else if a = 0xFF46 then s.startDma v
  else if a = 0xFF04 then s.resetDivider
  else if a = 0xFF02 then (if v = 0x81 then s.serialOut else s)
  else if a = 0xFF40 then s.lcdControl v
  else if a = 0xFF41 then s.statWrite v
  else if a = 0xFF45 then s.coincidenceUpdate
  else s

/-- The state after a published write that does not end the run. -/
def State.written (s : State) (a : Word) (v : Byte) : State := (s.quiet a v).subscribers a v

/-- `MMU.writeByte(addr, v, publish = true)` = `MemWrite(addr, 1, v)` (R71). -/
def State.writeByte (s : State) (a : Word) (v : Byte) : Result :=
  match s.writeFault a v with
  | some f => .fault f
  | none => .next (s.written a v)

/-! ### Words and the stack -/

/-- `readWord(addr)` (R76): low byte first, the address wraps. -/
def State.readWord (s : State) (a : Word) : Word := word (s.read (a + 1)) (s.read a)

/-- `writeWord(addr, w)` (R77): low byte first, each byte with its own subscribers. -/
def State.writeWord (s : State) (a : Word) (w : Word) : Result :=
  andThen (s.writeByte a (lo w)) fun t => t.writeByte (a + 1) (hi w)

/-- `push16(v)` (R10): `SP <- SP - 2; MemWrite(SP, 2, v)`. -/
def State.push16 (s : State) (w : Word) : Result :=
  (s.setSp (s.cpu.sp - 2)).writeWord (s.cpu.sp - 2) w

/-- The state `pop16()` leaves: `SP <- SP + 2` (R10); its value is `s.readWord s.cpu.sp`. -/
def State.popped (s : State) : State := s.setSp (s.cpu.sp + 2)

/-! ### Interrupts -/

/-- `IE & IF & 0x1F` (R320). -/
def State.pending (s : State) : Byte := s.read 0xFFFF &&& s.read 0xFF0F &&& 0x1F

/-- An interrupt is taken when `IME == 1` and something enabled is pending (R320). -/
def State.interruptDue (s : State) : Bool := s.cpu.ime && s.pending != 0

/-- The lowest bit index set among bits 0 to 4 (R321). -/
def lowestBit (v : Byte) : Nat :=
  if v.getLsbD 0 then 0 else if v.getLsbD 1 then 1 else if v.getLsbD 2 then 2 else if v.getLsbD 3 then 3 else 4

/-- The fixed vector of interrupt bit `i` (R323). -/
def vector (i : Nat) : Word := BitVec.ofNat 16 (0x0040 + 8 * i)

/-- Interrupt entry for bit `i` (R322): push `PC`, clear that `IF` bit, clear `IME`, go to the vector, charge 5. -/
def State.takeInterrupt (s : State) (i : Nat) : Result :=
  andThen (s.push16 s.cpu.pc) fun t =>
    andThen (t.writeByte 0xFF0F (t.read 0xFF0F &&& ~~~((1 : Byte) <<< i))) fun u =>
      .next (((u.setIme false).setPc (vector i)).charge 5)

/-- The return from an interrupt or a call (R278, R280): `pc <- pop16()`, at a cost. `RETI` sets `IME` with it. -/
def returnFrom (cost : Nat) (s : State) : Result :=
  .next ((s.popped.setPc (s.readWord s.cpu.sp)).charge cost)

end Sys2Proof.Machine
end

