-- ==== Sys2Proof/Machine/Dma.lean ====
section
/-! DEFINITION. The DMA sequencer (R100 to R102): one turn of the loop of `MMU.run`. -/

namespace Sys2Proof.Machine

/-- The Clock moves on to this phase. -/
def State.setPhase (s : State) (p : Phase) : State := { s with clock := { s.clock with phase := p } }

/-- `PPU.run(228)` is called (R350): with the LCD off it only clears its credit. -/
def enterPpu (s : State) : State :=
  if s.ppu.lcdOn then
    { s with ppu := { s.ppu with credit := s.ppu.credit + Config.ppuBudget } }.setPhase .ppu
  else { s with ppu := { s.ppu with credit := 0 } }.setPhase .apu

/-- Run one copy Command (R100): one bus read, one published bus write. -/
def copyByte (c : DmaCopy) (s : State) : Result := s.writeByte c.dst (s.read c.src)

/-- One turn of `MMU.run` with `credit` left (R101): copy a byte, or return, the rest of the credit discarded. -/
def dmaTurn (credit : Nat) (s : State) : Result :=
  match credit, s.dmaQueue with
  | n + 1, c :: rest => copyByte c ({ s with dmaQueue := rest }.setPhase (.mmu n))
  | _, _ => .next (enterPpu s)

end Sys2Proof.Machine
end

