-- ==== Sys2Proof/Machine/Ppu.lean ====
section
/-! DEFINITION. The PPU (R350 to R366): the pixel function and one turn of the loop of `PPU.run`. -/

namespace Sys2Proof.Machine

/-- The bus byte at a computed address. -/
def State.at (s : State) (a : Nat) : Byte := s.read (BitVec.ofNat 16 a)

/-- `tileLine(base_mode, idx, row)` (R360): the two bytes `(lo, hi)` of a tile row; `unsigned` is `base_mode == 1`. -/
def State.tileLine (s : State) (unsigned : Bool) (idx : Byte) (row : Nat) : Byte × Byte :=
  let base := if unsigned then 0x8000 + 16 * idx.toNat else ((0x9000 : Int) + 16 * idx.toInt).toNat
  let a := base + 2 * row
  (s.at a, s.at (a + 1))

/-- `colour(lo, hi, col)` (R360): column 0 is the leftmost, bit 7. -/
def colour (line : Byte × Byte) (col : Nat) : Nat :=
  2 * (line.2.getLsbD (7 - col)).toNat + (line.1.getLsbD (7 - col)).toNat

/-- The shade a palette byte gives a colour index (R39, R360): `(pal >> (2 * ci)) & 3`. -/
def paletteShade (pal : Byte) (ci : Nat) : Nat := pal.toNat / 2 ^ (2 * ci) % 4

/-- The colour index of a pixel of a 32 by 32 tile map (R360): `mapBit` selects the map, `px`, `py` the pixel. -/
def State.mapColour (s : State) (mapBit : Bool) (px py : Nat) : Nat :=
  let map := if mapBit then 0x9C00 else 0x9800
  let idx := s.at (map + 32 * (py / 8) + px / 8)
  colour (s.tileLine ((s.read 0xFF40).getLsbD 4) idx (py % 8)) (px % 8)

/-- Is the window shown at column `x` of line `ly` (R360, D27)? -/
def State.windowAt (s : State) (x ly : Nat) : Bool :=
  (s.read 0xFF40).getLsbD 5 && decide ((s.read 0xFF4A).toNat ≤ ly) && decide ((s.read 0xFF4B).toNat ≤ x + 7)

/-- The background's or window's colour index `bgci` at column `x` of line `ly` (R360). -/
def State.backgroundColour (s : State) (x ly : Nat) : Nat :=
  let lcdc := s.read 0xFF40
  if !lcdc.getLsbD 0 then 0
  else if s.windowAt x ly then
    s.mapColour (lcdc.getLsbD 6) (x + 7 - (s.read 0xFF4B).toNat) (ly - (s.read 0xFF4A).toNat)
  else
    s.mapColour (lcdc.getLsbD 3) ((x + (s.read 0xFF43).toNat) % 256) ((ly + (s.read 0xFF42).toNat) % 256)

/-- The shade of the background or window (R360); with `LCDC[0] == 0` it is 0 and not passed through `BGP` (R361). -/
def State.backgroundShade (s : State) (x ly : Nat) : Nat :=
  if !(s.read 0xFF40).getLsbD 0 then 0 else paletteShade (s.read 0xFF47) (s.backgroundColour x ly)

/-- The height of an object: 16 when `LCDC[2]` is set, else 8 (R359). -/
def State.objHeight (s : State) : Nat := if (s.read 0xFF40).getLsbD 2 then 16 else 8

/-- Byte `k` of OAM entry `i` (R359). -/
def State.oamByte (s : State) (i k : Nat) : Byte := s.at (0xFE00 + 4 * i + k)

/-- Does object `i` overlap line `ly` (R359)? -/
def State.objOverlaps (s : State) (ly i : Nat) : Bool :=
  let y := (s.oamByte i 0).toNat
  decide (y ≤ ly + 16) && decide (ly + 16 < y + s.objHeight)

/-- The objects selected for line `ly`: the first ten overlapping ones in OAM order (R359). -/
def State.selected (s : State) (ly : Nat) : List Nat := ((List.range 40).filter (s.objOverlaps ly)).take 10

/-- The colour index object `i` shows at column `x` of line `ly`; 0 where it does not cover the column, which is
also the transparent index (R360). -/
def State.objColour (s : State) (x ly i : Nat) : Nat :=
  let left := (s.oamByte i 1).toNat
  if decide (left ≤ x + 8) && decide (x + 8 < left + 8) then
    let attr := s.oamByte i 3
    let h := s.objHeight
    let col := if attr.getLsbD 5 then 7 - (x + 8 - left) else x + 8 - left
    let line := ly + 16 - (s.oamByte i 0).toNat
    let row := if attr.getLsbD 6 then h - 1 - line else line
    let tile := if h = 16 then s.oamByte i 2 &&& 0xFE else s.oamByte i 2
    colour (s.tileLine true tile row) col
  else 0

/-- The objects over the background (R360, R361): the first opaque one in the list decides, even where it then
loses to the background. -/
def State.objectShade (s : State) (x ly bgci shade : Nat) : List Nat → Nat
  | [] => shade
  | i :: rest =>
    let ci := s.objColour x ly i
    if ci = 0 then s.objectShade x ly bgci shade rest
    else
      let attr := s.oamByte i 3
      if attr.getLsbD 7 && decide (bgci ≠ 0) then shade
      else paletteShade (if attr.getLsbD 4 then s.read 0xFF49 else s.read 0xFF48) ci

/-- `pixel(x, ly)` (R360): the shade 0 to 3 of column `x` of line `ly`. -/
def State.pixel (s : State) (x ly : Nat) : Nat :=
  let shade := s.backgroundShade x ly
  if (s.read 0xFF40).getLsbD 1 then s.objectShade x ly (s.backgroundColour x ly) shade (s.selected ly) else shade

/-- Draw line `ly` into the Bitmap (R356). -/
def State.drawLine (s : State) (ly : Nat) : State :=
  let line : Vector (BitVec 2) 160 := Vector.ofFn fun x => BitVec.ofNat 2 (s.pixel x ly)
  { s with ppu := { s.ppu with bitmap := s.ppu.bitmap.setIfInBounds ly line } }

/-- The RGBA pixel the host sees at column `x` of line `y` (R366). -/
def State.rgba (s : State) (x y : Nat) : BitVec 32 :=
  Config.shadeRgba ((s.ppu.bitmap.getD y (Vector.replicate 160 0)).getD x 0)

/-- The PPU's next step is `n`, and the step just run cost `cost` PPU cycles (R350). -/
def State.ppuNext (s : State) (n : PpuStep) (cost : Nat) : State :=
  { s with ppu := { s.ppu with nextStep := n, credit := s.ppu.credit - cost } }

/-- Step `OamScan` (R355): mode 2, 40 cycles. -/
def oamScanStep (s : State) : State := ((s.setMode .oamScan).statRequestIf 5).ppuNext .pixelTransfer 40

/-- Step `PixelTransfer` (R356): mode 3, 144 cycles. -/
def pixelTransferStep (s : State) : State :=
  ((s.setMode .pixelTransfer).drawLine s.ppu.ly.toNat).ppuNext .hBlank 144

/-- Step `HBlank` (R357): mode 0, 44 cycles, then the next line. -/
def hBlankStep (s : State) : State :=
  let t := ((s.setMode .hBlank).statRequestIf 3).setLy (s.ppu.ly + 1)
  t.ppuNext (if t.ppu.ly.toNat < 144 then .oamScan else .vBlank) 44

/-- The entry work of V-Blank at line 144 (R358, R366). -/
def vBlankEntry (s : State) : State :=
  let t := ((s.setMode .vBlank).request 0x01).statRequestIf 4
  { t with ppu := { t.ppu with framesReady := t.ppu.framesReady + 1 } }

/-- Step `VBlank` (R358): mode 1, 228 cycles a line, wrapping from line 153 to 0. -/
def vBlankStep (s : State) : State :=
  let t := if s.ppu.ly = 144 then vBlankEntry s else s
  let u := t.setLy (if s.ppu.ly = 153 then 0 else s.ppu.ly + 1)
  u.ppuNext (if u.ppu.ly = 0 then .oamScan else .vBlank) 228

/-- The action of the PPU's next step (R350). -/
def ppuStep (s : State) : State :=
  match s.ppu.nextStep with
  | .oamScan => oamScanStep s
  | .pixelTransfer => pixelTransferStep s
  | .hBlank => hBlankStep s
  | .vBlank => vBlankStep s

/-- One turn of the loop of `PPU.run` (R350): a step while the credit is positive, else return. -/
def ppuTurn (s : State) : State := if s.ppu.credit ≤ 0 then s.setPhase .apu else ppuStep s

end Sys2Proof.Machine
end

