-- ==== Sys2Proof/Machine/Timer.lean ====
section
/-! DEFINITION. The Timer (R340 to R344): one timer unit. -/

namespace Sys2Proof.Machine

/-- `threshold(select)` in timer units (R341). -/
def threshold (tac : Byte) : Nat :=
  match tac.toNat % 4 with
  | 0 => 64
  | 1 => 1
  | 2 => 4
  | _ => 16

/-- The divider's part of a unit (R341, R342). -/
def divUnit (s : State) : State :=
  if s.timer.divAcc + 1 ≥ 16 then
    { s with timer := { s.timer with divAcc := 0 } }.quiet 0xFF04 (s.read 0xFF04 + 1)
  else { s with timer := { s.timer with divAcc := s.timer.divAcc + 1 } }

/-- A tick of `TIMA` (R343, R344): on overflow it reloads from `TMA` and requests the Timer interrupt, at once. -/
def timaTick (s : State) : State :=
  let t := s.read 0xFF05
  if t = 0xFF then (s.quiet 0xFF05 (s.read 0xFF06)).request 0x04 else s.quiet 0xFF05 (t + 1)

/-- The counter's part of a unit (R341, R343). -/
def timaUnit (s : State) : State :=
  let tac := s.read 0xFF07
  if tac.getLsbD 2 then
    if s.timer.timaAcc + 1 ≥ threshold tac then
      timaTick { s with timer := { s.timer with timaAcc := 0 } }
    else { s with timer := { s.timer with timaAcc := s.timer.timaAcc + 1 } }
  else s

/-- One unit of `Timer.run` (R341). -/
def timerUnit (s : State) : State := timaUnit (divUnit s)

end Sys2Proof.Machine
end

