-- ==== Sys2Proof/Machine/Boundary.lean ====
section
/-! DEFINITION. The rest of a slice and the machine's boundary: `APU.run` as an opaque agent (R371), the end of a
slice and of a frame (R420, R422), and the host's operations, legal only between frames (R103, R400, R425). -/

namespace Sys2Proof.Machine

/-- The Timer's budget for the slice being run (R420, R421). -/
def State.timerBudget (s : State) : Nat := Config.budgetAt s.params.timerBudgets s.clock.slice

/-- The APU's budget for the slice being run (R420, R421). -/
def State.apuBudget (s : State) : Nat := Config.budgetAt s.params.apuBudgets s.clock.slice

/-- `APU.run` (R371): the 48 bytes 0xFF10 to 0xFF3F become free values, which may depend on every byte the bus shows;
nothing else changes (log 4). -/
def apuTurn (s : State) : State :=
  { s with
    sound := Vector.ofFn fun i => Config.apuByte s.apuRuns s.apuBudget s.read i
    apuRuns := s.apuRuns + 1 }.setPhase (.timer s.timerBudget)

/-- The reset of every unit with this cartridge in place (R400, R104): the BIOS is mapped again and everything else
has its reset value. What is not the machine's own state is kept: the BIOS contents, the parameters, the host's
coming operations, and what has already been given out (log 12). -/
def State.resetWith (s : State) (cart : Option Cartridge) : State :=
  { State.reset with
    cart := cart
    shelf := s.shelf
    bios := s.bios
    debugOut := s.debugOut
    mbcReports := s.mbcReports
    ppu := { Ppu.reset with framesReady := s.ppu.framesReady }
    apuRuns := s.apuRuns
    params := s.params
    hostInput := s.hostInput }

/-- Take the present Cartridge out (R103): it is kept as it is. -/
def State.eject (s : State) : State := { s with cart := none, shelf := s.shelf ++ s.cart.toList }

/-- A cartridge swap (R103, R400): the present Cartridge is taken out, `c` inserted, and every unit reset. -/
def State.swapIn (s : State) (c : Cartridge) : State := s.eject.resetWith (some c)

/-- `insertCartridge` of a newly built Cartridge, and reset (R85, R93, R103, R400): an image the preconditions
exclude is refused, an unsupported MBC type reported. -/
def insertRom (len : Nat) (rom : List Host.Cell) (s : State) : Result :=
  match Cartridge.build len rom with
  | none => .refused (.cartridgeRefused len)
  | some c =>
    let t := s.swapIn c
    if c.kind = .inert then .next { t with mbcReports := t.mbcReports ++ [Memory.read rom 0x0147] } else .next t

/-- `insertCartridge` of a Cartridge that was taken out before, and reset (R103, R400, R401). -/
def State.putBack (s : State) (k : Nat) : State :=
  match s.shelf[k]? with
  | some c => { s with shelf := s.shelf.eraseIdx k }.swapIn c
  | none => s

/-- One host operation (R425). The spec's reset comes with an insertion (R103, R400) or at power-on (R401); that `reinsert`
with an empty slot resets the machine too, without a Cartridge and with the BIOS mapped again, is the model's choice:
DESIGN CHOICE (log 25). -/
def hostAction (x : HostAction) (s : State) : Result :=
  match x with
  | .joypad v => .next (s.quiet 0xFF00 v)
  | .joypadRequest => .next (s.request 0x10)
  | .insert len rom => insertRom len rom s
  | .reinsert => .next (s.resetWith s.cart)
  | .putBack k => .next (s.putBack k)

/-- Does this operation insert a Cartridge and reset the machine (R400)? -/
def State.resetBy (s : State) (x : HostAction) : Bool :=
  match x with
  | .joypad _ | .joypadRequest => false
  | .insert _ _ => true
  | .reinsert => s.cart.isSome
  | .putBack k => decide (k < s.shelf.length)

/-- The machine the host finds when a step from `s` has ended in `x` (R330): the state changes already made stay made,
and the reset that is the only way on keeps none of them but the Cartridge's. -/
def State.faulted (s : State) (x : Fault) : State :=
  match x with
  | .bankOutOfRange c => { s with cart := some c }
  | .instructionNotFound _ _ | .instructionNotImplemented _ | .addressOutOfRange _ => s

/-- The host's way out of a run that a step from `s` has ended in `x` (R330, R400, R401): only a cartridge swap and
reset; any other operation leaves the fault as it is. -/
def recover (s : State) (x : Fault) (a : HostAction) : Result :=
  if (s.faulted x).resetBy a then hostAction a (s.faulted x) else .fault x

/-- Several host operations in order. -/
def hostActions (xs : List HostAction) (s : State) : Result :=
  match xs with
  | [] => .next s
  | x :: rest => andThen (hostAction x s) (hostActions rest)

/-- The boundary between two frames (R422): the host performs its next list of operations. -/
def frameBoundary (s : State) : Result :=
  match s.hostInput with
  | [] => .next s
  | xs :: rest => hostActions xs { s with hostInput := rest }

/-- The end of a slice (R420): after the last slice of a frame comes the frame boundary. -/
def endSlice (s : State) : Result :=
  let t := { s with clock := { phase := .cpuCall, slice := (s.clock.slice + 1) % Config.slicesPerFrame } }
  if t.clock.slice = 0 then frameBoundary t else .next t

/-- One turn of `Timer.run` with `left` units to go (R341), or the end of the slice. -/
def timerTurn (left : Nat) (s : State) : Result :=
  match left with
  | 0 => endSlice s
  | n + 1 => .next ((timerUnit s).setPhase (.timer n))

end Sys2Proof.Machine
end

