-- ==== Sys2Proof/Machine/Operands.lean ====
section
/-! DEFINITION. The operand forms (R136, R210, R290) and the shapes an instruction's effect takes over them: where a
value is read, where a result and its flags go, what it costs. Each instruction's meaning is one of these. -/

namespace Sys2Proof.Machine

/-- A signed 8-bit displacement as a 16-bit addend, `sext_8(e)` (R10, R136). -/
def sext (e : Byte) : Word := e.signExtend 16

/-- `0xFF00 + n`, the address of the `LDH` forms (R136). -/
def highPage (n : Byte) : Word := 0xFF00 + n.zeroExtend 16

/-- `pc + sext_8(e)` modulo 2^16 (R274). -/
def relative (pc : Word) (e : Byte) : Word := pc + sext e

/-- A register gets a byte; no flag changes. -/
def loadReg (dst : Reg8) (v : Byte) (cost : Nat) (s : State) : Result := .next ((s.setReg dst v).charge cost)

/-- A pair or `SP` gets a word; no flag changes. -/
def loadPair (p : Pair) (w : Word) (cost : Nat) (s : State) : Result := .next ((s.setPair p w).charge cost)

/-- A byte is stored, as a published write; no flag changes. -/
def storeByte (a : Word) (v : Byte) (cost : Nat) (s : State) : Result :=
  andThen (s.writeByte a v) fun t => .next (t.charge cost)

/-- A word is stored, low byte first; no flag changes. -/
def storeWord (a : Word) (w : Word) (cost : Nat) (s : State) : Result :=
  andThen (s.writeWord a w) fun t => .next (t.charge cost)

/-- All four flags are written, nothing else. -/
def flagsOnly (f : Flags) (cost : Nat) (s : State) : Result := .next ((s.setFlags f).charge cost)

/-- The accumulator gets the value and `F` the flags (R213 to R219). -/
def writeA (r : AluResult) (cost : Nat) (s : State) : Result :=
  .next (((s.setReg .a r.value).setFlags r.flags).charge cost)

/-- Only the flags are kept, the value is discarded (`CP`, R220). -/
def compareA (r : AluResult) (cost : Nat) (s : State) : Result := flagsOnly r.flags cost s

/-- A register gets the value and `F` the flags (`INC r`, `DEC r`: R221, R223). -/
def stepReg (dst : Reg8) (r : AluResult) (cost : Nat) (s : State) : Result :=
  .next (((s.setReg dst r.value).setFlags r.flags).charge cost)

/-- The byte at `HL` gets the value, then `F` the flags (`INC (HL)`, `DEC (HL)`: R222, R224). -/
def stepMem (r : AluResult) (cost : Nat) (s : State) : Result :=
  andThen (s.writeByte s.hl r.value) fun t => .next ((t.setFlags r.flags).charge cost)

/-- `put(z, r)` for a register, then the flags (R290 to R298). -/
def cbReg (dst : Reg8) (r : AluResult) (cost : Nat) (s : State) : Result :=
  .next (((s.setReg dst r.value).setFlags r.flags).charge cost)

/-- `put(6, r)`: the byte at `HL`, then the flags (R290 to R298). -/
def cbMem (r : AluResult) (cost : Nat) (s : State) : Result :=
  andThen (s.writeByte s.hl r.value) fun t => .next ((t.setFlags r.flags).charge cost)

/-- `BIT b` on the value `v` (R299). -/
def testBit (v : Byte) (b : Nat) (cost : Nat) (s : State) : Result := flagsOnly (bitFlags v b s.cpu.f) cost s

end Sys2Proof.Machine
end

