-- ==== Sys2Proof/Machine/Alu16.lean ====
section
/-! DEFINITION. The 16-bit arithmetic (R240 to R243). -/

namespace Sys2Proof.Machine

/-- `ADD HL,rr` (R240). -/
def addHl (v : Word) (cost : Nat) (s : State) : Result :=
  .next (((s.setPair .hl (s.hl + v)).setFlags (addHlFlags s.hl v s.cpu.f)).charge cost)

/-- `ADD SP,e` (R243). -/
def addSp (e : Byte) (cost : Nat) (s : State) : Result :=
  .next (((s.setSp (s.cpu.sp + sext e)).setFlags (addSpFlags s.cpu.sp e)).charge cost)

/-- `INC BC` (R241). -/
def exec_inc_bc (s : State) : Result := loadPair .bc (s.pair .bc + 1) 2 s

/-- `ADD HL,BC` (R240). -/
def exec_add_hl_bc (s : State) : Result := addHl (s.pair .bc) 2 s

/-- `DEC BC` (R242). -/
def exec_dec_bc (s : State) : Result := loadPair .bc (s.pair .bc - 1) 2 s

/-- `INC DE` (R241). -/
def exec_inc_de (s : State) : Result := loadPair .de (s.pair .de + 1) 2 s

/-- `ADD HL,DE` (R240). -/
def exec_add_hl_de (s : State) : Result := addHl (s.pair .de) 2 s

/-- `DEC DE` (R242). -/
def exec_dec_de (s : State) : Result := loadPair .de (s.pair .de - 1) 2 s

/-- `INC HL` (R241). -/
def exec_inc_hl (s : State) : Result := loadPair .hl (s.pair .hl + 1) 2 s

/-- `ADD HL,HL` (R240). -/
def exec_add_hl_hl (s : State) : Result := addHl (s.pair .hl) 2 s

/-- `DEC HL` (R242). -/
def exec_dec_hl (s : State) : Result := loadPair .hl (s.pair .hl - 1) 2 s

/-- `INC SP` (R241). -/
def exec_inc_sp (s : State) : Result := loadPair .sp (s.pair .sp + 1) 2 s

/-- `ADD HL,SP` (R240). -/
def exec_add_hl_sp (s : State) : Result := addHl (s.pair .sp) 2 s

/-- `DEC SP` (R242). -/
def exec_dec_sp (s : State) : Result := loadPair .sp (s.pair .sp - 1) 2 s

/-- `ADD SP,e` (R243). -/
def exec_add_sp_e (e : Byte) (s : State) : Result := addSp e 4 s

end Sys2Proof.Machine
end

