-- ==== Sys2Proof/Machine/Alu8.lean ====
section
/-! DEFINITION. The 8-bit arithmetic and logic (R210 to R225). -/

namespace Sys2Proof.Machine

/-- `INC B` (R221). -/
def exec_inc_b (s : State) : Result := stepReg .b (inc8 s.cpu.b s.cpu.f) 1 s

/-- `DEC B` (R223). -/
def exec_dec_b (s : State) : Result := stepReg .b (dec8 s.cpu.b s.cpu.f) 1 s

/-- `INC C` (R221). -/
def exec_inc_c (s : State) : Result := stepReg .c (inc8 s.cpu.c s.cpu.f) 1 s

/-- `DEC C` (R223). -/
def exec_dec_c (s : State) : Result := stepReg .c (dec8 s.cpu.c s.cpu.f) 1 s

/-- `INC D` (R221). -/
def exec_inc_d (s : State) : Result := stepReg .d (inc8 s.cpu.d s.cpu.f) 1 s

/-- `DEC D` (R223). -/
def exec_dec_d (s : State) : Result := stepReg .d (dec8 s.cpu.d s.cpu.f) 1 s

/-- `INC E` (R221). -/
def exec_inc_e (s : State) : Result := stepReg .e (inc8 s.cpu.e s.cpu.f) 1 s

/-- `DEC E` (R223). -/
def exec_dec_e (s : State) : Result := stepReg .e (dec8 s.cpu.e s.cpu.f) 1 s

/-- `INC H` (R221). -/
def exec_inc_h (s : State) : Result := stepReg .h (inc8 s.cpu.h s.cpu.f) 1 s

/-- `DEC H` (R223). -/
def exec_dec_h (s : State) : Result := stepReg .h (dec8 s.cpu.h s.cpu.f) 1 s

/-- `INC L` (R221). -/
def exec_inc_l (s : State) : Result := stepReg .l (inc8 s.cpu.l s.cpu.f) 1 s

/-- `DEC L` (R223). -/
def exec_dec_l (s : State) : Result := stepReg .l (dec8 s.cpu.l s.cpu.f) 1 s

/-- `INC (HL)` (R222). -/
def exec_inc_mhl (s : State) : Result := stepMem (inc8 (s.read s.hl) s.cpu.f) 3 s

/-- `DEC (HL)` (R224). -/
def exec_dec_mhl (s : State) : Result := stepMem (dec8 (s.read s.hl) s.cpu.f) 3 s

/-- `INC A` (R221). -/
def exec_inc_a (s : State) : Result := stepReg .a (inc8 s.cpu.a s.cpu.f) 1 s

/-- `DEC A` (R223). -/
def exec_dec_a (s : State) : Result := stepReg .a (dec8 s.cpu.a s.cpu.f) 1 s

/-- `ADD A,B` (R213). -/
def exec_add_a_b (s : State) : Result := writeA (add8 s.cpu.a s.cpu.b false) 1 s

/-- `ADD A,C` (R213). -/
def exec_add_a_c (s : State) : Result := writeA (add8 s.cpu.a s.cpu.c false) 1 s

/-- `ADD A,D` (R213). -/
def exec_add_a_d (s : State) : Result := writeA (add8 s.cpu.a s.cpu.d false) 1 s

/-- `ADD A,E` (R213). -/
def exec_add_a_e (s : State) : Result := writeA (add8 s.cpu.a s.cpu.e false) 1 s

/-- `ADD A,H` (R213). -/
def exec_add_a_h (s : State) : Result := writeA (add8 s.cpu.a s.cpu.h false) 1 s

/-- `ADD A,L` (R213). -/
def exec_add_a_l (s : State) : Result := writeA (add8 s.cpu.a s.cpu.l false) 1 s

/-- `ADD A,(HL)` (R213). -/
def exec_add_a_mhl (s : State) : Result := writeA (add8 s.cpu.a (s.read s.hl) false) 2 s

/-- `ADD A,A` (R213). -/
def exec_add_a_a (s : State) : Result := writeA (add8 s.cpu.a s.cpu.a false) 1 s

/-- `ADC A,B` (R214). -/
def exec_adc_a_b (s : State) : Result := writeA (add8 s.cpu.a s.cpu.b s.cpu.f.c) 1 s

/-- `ADC A,C` (R214). -/
def exec_adc_a_c (s : State) : Result := writeA (add8 s.cpu.a s.cpu.c s.cpu.f.c) 1 s

/-- `ADC A,D` (R214). -/
def exec_adc_a_d (s : State) : Result := writeA (add8 s.cpu.a s.cpu.d s.cpu.f.c) 1 s

/-- `ADC A,E` (R214). -/
def exec_adc_a_e (s : State) : Result := writeA (add8 s.cpu.a s.cpu.e s.cpu.f.c) 1 s

/-- `ADC A,H` (R214). -/
def exec_adc_a_h (s : State) : Result := writeA (add8 s.cpu.a s.cpu.h s.cpu.f.c) 1 s

/-- `ADC A,L` (R214). -/
def exec_adc_a_l (s : State) : Result := writeA (add8 s.cpu.a s.cpu.l s.cpu.f.c) 1 s

/-- `ADC A,(HL)` (R214). -/
def exec_adc_a_mhl (s : State) : Result := writeA (add8 s.cpu.a (s.read s.hl) s.cpu.f.c) 2 s

/-- `ADC A,A` (R214). -/
def exec_adc_a_a (s : State) : Result := writeA (add8 s.cpu.a s.cpu.a s.cpu.f.c) 1 s

/-- `SUB B` (R215). -/
def exec_sub_b (s : State) : Result := writeA (sub8 s.cpu.a s.cpu.b false) 1 s

/-- `SUB C` (R215). -/
def exec_sub_c (s : State) : Result := writeA (sub8 s.cpu.a s.cpu.c false) 1 s

/-- `SUB D` (R215). -/
def exec_sub_d (s : State) : Result := writeA (sub8 s.cpu.a s.cpu.d false) 1 s

/-- `SUB E` (R215). -/
def exec_sub_e (s : State) : Result := writeA (sub8 s.cpu.a s.cpu.e false) 1 s

/-- `SUB H` (R215). -/
def exec_sub_h (s : State) : Result := writeA (sub8 s.cpu.a s.cpu.h false) 1 s

/-- `SUB L` (R215). -/
def exec_sub_l (s : State) : Result := writeA (sub8 s.cpu.a s.cpu.l false) 1 s

/-- `SUB (HL)` (R215). -/
def exec_sub_mhl (s : State) : Result := writeA (sub8 s.cpu.a (s.read s.hl) false) 2 s

/-- `SUB A` (R215). -/
def exec_sub_a (s : State) : Result := writeA (sub8 s.cpu.a s.cpu.a false) 1 s

/-- `SBC A,B` (R216). -/
def exec_sbc_a_b (s : State) : Result := writeA (sub8 s.cpu.a s.cpu.b s.cpu.f.c) 1 s

/-- `SBC A,C` (R216). -/
def exec_sbc_a_c (s : State) : Result := writeA (sub8 s.cpu.a s.cpu.c s.cpu.f.c) 1 s

/-- `SBC A,D` (R216). -/
def exec_sbc_a_d (s : State) : Result := writeA (sub8 s.cpu.a s.cpu.d s.cpu.f.c) 1 s

/-- `SBC A,E` (R216). -/
def exec_sbc_a_e (s : State) : Result := writeA (sub8 s.cpu.a s.cpu.e s.cpu.f.c) 1 s

/-- `SBC A,H` (R216). -/
def exec_sbc_a_h (s : State) : Result := writeA (sub8 s.cpu.a s.cpu.h s.cpu.f.c) 1 s

/-- `SBC A,L` (R216). -/
def exec_sbc_a_l (s : State) : Result := writeA (sub8 s.cpu.a s.cpu.l s.cpu.f.c) 1 s

/-- `SBC A,(HL)` (R216). -/
def exec_sbc_a_mhl (s : State) : Result := writeA (sub8 s.cpu.a (s.read s.hl) s.cpu.f.c) 2 s

/-- `SBC A,A` (R216). -/
def exec_sbc_a_a (s : State) : Result := writeA (sub8 s.cpu.a s.cpu.a s.cpu.f.c) 1 s

/-- `AND B` (R217). -/
def exec_and_b (s : State) : Result := writeA (and8 s.cpu.a s.cpu.b) 1 s

/-- `AND C` (R217). -/
def exec_and_c (s : State) : Result := writeA (and8 s.cpu.a s.cpu.c) 1 s

/-- `AND D` (R217). -/
def exec_and_d (s : State) : Result := writeA (and8 s.cpu.a s.cpu.d) 1 s

/-- `AND E` (R217). -/
def exec_and_e (s : State) : Result := writeA (and8 s.cpu.a s.cpu.e) 1 s

/-- `AND H` (R217). -/
def exec_and_h (s : State) : Result := writeA (and8 s.cpu.a s.cpu.h) 1 s

/-- `AND L` (R217). -/
def exec_and_l (s : State) : Result := writeA (and8 s.cpu.a s.cpu.l) 1 s

/-- `AND (HL)` (R217). -/
def exec_and_mhl (s : State) : Result := writeA (and8 s.cpu.a (s.read s.hl)) 2 s

/-- `AND A` (R217). -/
def exec_and_a (s : State) : Result := writeA (and8 s.cpu.a s.cpu.a) 1 s

/-- `XOR B` (R218). -/
def exec_xor_b (s : State) : Result := writeA (xor8 s.cpu.a s.cpu.b) 1 s

/-- `XOR C` (R218). -/
def exec_xor_c (s : State) : Result := writeA (xor8 s.cpu.a s.cpu.c) 1 s

/-- `XOR D` (R218). -/
def exec_xor_d (s : State) : Result := writeA (xor8 s.cpu.a s.cpu.d) 1 s

/-- `XOR E` (R218). -/
def exec_xor_e (s : State) : Result := writeA (xor8 s.cpu.a s.cpu.e) 1 s

/-- `XOR H` (R218). -/
def exec_xor_h (s : State) : Result := writeA (xor8 s.cpu.a s.cpu.h) 1 s

/-- `XOR L` (R218). -/
def exec_xor_l (s : State) : Result := writeA (xor8 s.cpu.a s.cpu.l) 1 s

/-- `XOR (HL)` (R218). -/
def exec_xor_mhl (s : State) : Result := writeA (xor8 s.cpu.a (s.read s.hl)) 2 s

/-- `XOR A` (R218). -/
def exec_xor_a (s : State) : Result := writeA (xor8 s.cpu.a s.cpu.a) 1 s

/-- `OR B` (R219). -/
def exec_or_b (s : State) : Result := writeA (or8 s.cpu.a s.cpu.b) 1 s

/-- `OR C` (R219). -/
def exec_or_c (s : State) : Result := writeA (or8 s.cpu.a s.cpu.c) 1 s

/-- `OR D` (R219). -/
def exec_or_d (s : State) : Result := writeA (or8 s.cpu.a s.cpu.d) 1 s

/-- `OR E` (R219). -/
def exec_or_e (s : State) : Result := writeA (or8 s.cpu.a s.cpu.e) 1 s

/-- `OR H` (R219). -/
def exec_or_h (s : State) : Result := writeA (or8 s.cpu.a s.cpu.h) 1 s

/-- `OR L` (R219). -/
def exec_or_l (s : State) : Result := writeA (or8 s.cpu.a s.cpu.l) 1 s

/-- `OR (HL)` (R219). -/
def exec_or_mhl (s : State) : Result := writeA (or8 s.cpu.a (s.read s.hl)) 2 s

/-- `OR A` (R219). -/
def exec_or_a (s : State) : Result := writeA (or8 s.cpu.a s.cpu.a) 1 s

/-- `CP B` (R220). -/
def exec_cp_b (s : State) : Result := compareA (sub8 s.cpu.a s.cpu.b false) 1 s

/-- `CP C` (R220). -/
def exec_cp_c (s : State) : Result := compareA (sub8 s.cpu.a s.cpu.c false) 1 s

/-- `CP D` (R220). -/
def exec_cp_d (s : State) : Result := compareA (sub8 s.cpu.a s.cpu.d false) 1 s

/-- `CP E` (R220). -/
def exec_cp_e (s : State) : Result := compareA (sub8 s.cpu.a s.cpu.e false) 1 s

/-- `CP H` (R220). -/
def exec_cp_h (s : State) : Result := compareA (sub8 s.cpu.a s.cpu.h false) 1 s

/-- `CP L` (R220). -/
def exec_cp_l (s : State) : Result := compareA (sub8 s.cpu.a s.cpu.l false) 1 s

/-- `CP (HL)` (R220). -/
def exec_cp_mhl (s : State) : Result := compareA (sub8 s.cpu.a (s.read s.hl) false) 2 s

/-- `CP A` (R220). -/
def exec_cp_a (s : State) : Result := compareA (sub8 s.cpu.a s.cpu.a false) 1 s

/-- `ADD A,n` (R213). -/
def exec_add_a_n (n : Byte) (s : State) : Result := writeA (add8 s.cpu.a n false) 2 s

/-- `ADC A,n` (R214). -/
def exec_adc_a_n (n : Byte) (s : State) : Result := writeA (add8 s.cpu.a n s.cpu.f.c) 2 s

/-- `SUB n` (R215). -/
def exec_sub_n (n : Byte) (s : State) : Result := writeA (sub8 s.cpu.a n false) 2 s

/-- `SBC A,n` (R216). -/
def exec_sbc_a_n (n : Byte) (s : State) : Result := writeA (sub8 s.cpu.a n s.cpu.f.c) 2 s

/-- `AND n` (R217). -/
def exec_and_n (n : Byte) (s : State) : Result := writeA (and8 s.cpu.a n) 2 s

/-- `XOR n` (R218). -/
def exec_xor_n (n : Byte) (s : State) : Result := writeA (xor8 s.cpu.a n) 2 s

/-- `OR n` (R219). -/
def exec_or_n (n : Byte) (s : State) : Result := writeA (or8 s.cpu.a n) 2 s

/-- `CP n` (R220). -/
def exec_cp_n (n : Byte) (s : State) : Result := compareA (sub8 s.cpu.a n false) 2 s

end Sys2Proof.Machine
end

