-- ==== Sys2Proof/Machine/CbBit.lean ====
section
/-! DEFINITION. The bit operations of the 0xCB page (R299 to R301). -/

namespace Sys2Proof.Machine

/-- `BIT 0,B` (R299). -/
def exec_bit_0_b (s : State) : Result := testBit s.cpu.b 0 2 s

/-- `BIT 0,C` (R299). -/
def exec_bit_0_c (s : State) : Result := testBit s.cpu.c 0 2 s

/-- `BIT 0,D` (R299). -/
def exec_bit_0_d (s : State) : Result := testBit s.cpu.d 0 2 s

/-- `BIT 0,E` (R299). -/
def exec_bit_0_e (s : State) : Result := testBit s.cpu.e 0 2 s

/-- `BIT 0,H` (R299). -/
def exec_bit_0_h (s : State) : Result := testBit s.cpu.h 0 2 s

/-- `BIT 0,L` (R299). -/
def exec_bit_0_l (s : State) : Result := testBit s.cpu.l 0 2 s

/-- `BIT 0,(HL)` (R299). -/
def exec_bit_0_mhl (s : State) : Result := testBit (s.read s.hl) 0 3 s

/-- `BIT 0,A` (R299). -/
def exec_bit_0_a (s : State) : Result := testBit s.cpu.a 0 2 s

/-- `BIT 1,B` (R299). -/
def exec_bit_1_b (s : State) : Result := testBit s.cpu.b 1 2 s

/-- `BIT 1,C` (R299). -/
def exec_bit_1_c (s : State) : Result := testBit s.cpu.c 1 2 s

/-- `BIT 1,D` (R299). -/
def exec_bit_1_d (s : State) : Result := testBit s.cpu.d 1 2 s

/-- `BIT 1,E` (R299). -/
def exec_bit_1_e (s : State) : Result := testBit s.cpu.e 1 2 s

/-- `BIT 1,H` (R299). -/
def exec_bit_1_h (s : State) : Result := testBit s.cpu.h 1 2 s

/-- `BIT 1,L` (R299). -/
def exec_bit_1_l (s : State) : Result := testBit s.cpu.l 1 2 s

/-- `BIT 1,(HL)` (R299). -/
def exec_bit_1_mhl (s : State) : Result := testBit (s.read s.hl) 1 3 s

/-- `BIT 1,A` (R299). -/
def exec_bit_1_a (s : State) : Result := testBit s.cpu.a 1 2 s

/-- `BIT 2,B` (R299). -/
def exec_bit_2_b (s : State) : Result := testBit s.cpu.b 2 2 s

/-- `BIT 2,C` (R299). -/
def exec_bit_2_c (s : State) : Result := testBit s.cpu.c 2 2 s

/-- `BIT 2,D` (R299). -/
def exec_bit_2_d (s : State) : Result := testBit s.cpu.d 2 2 s

/-- `BIT 2,E` (R299). -/
def exec_bit_2_e (s : State) : Result := testBit s.cpu.e 2 2 s

/-- `BIT 2,H` (R299). -/
def exec_bit_2_h (s : State) : Result := testBit s.cpu.h 2 2 s

/-- `BIT 2,L` (R299). -/
def exec_bit_2_l (s : State) : Result := testBit s.cpu.l 2 2 s

/-- `BIT 2,(HL)` (R299). -/
def exec_bit_2_mhl (s : State) : Result := testBit (s.read s.hl) 2 3 s

/-- `BIT 2,A` (R299). -/
def exec_bit_2_a (s : State) : Result := testBit s.cpu.a 2 2 s

/-- `BIT 3,B` (R299). -/
def exec_bit_3_b (s : State) : Result := testBit s.cpu.b 3 2 s

/-- `BIT 3,C` (R299). -/
def exec_bit_3_c (s : State) : Result := testBit s.cpu.c 3 2 s

/-- `BIT 3,D` (R299). -/
def exec_bit_3_d (s : State) : Result := testBit s.cpu.d 3 2 s

/-- `BIT 3,E` (R299). -/
def exec_bit_3_e (s : State) : Result := testBit s.cpu.e 3 2 s

/-- `BIT 3,H` (R299). -/
def exec_bit_3_h (s : State) : Result := testBit s.cpu.h 3 2 s

/-- `BIT 3,L` (R299). -/
def exec_bit_3_l (s : State) : Result := testBit s.cpu.l 3 2 s

/-- `BIT 3,(HL)` (R299). -/
def exec_bit_3_mhl (s : State) : Result := testBit (s.read s.hl) 3 3 s

/-- `BIT 3,A` (R299). -/
def exec_bit_3_a (s : State) : Result := testBit s.cpu.a 3 2 s

/-- `BIT 4,B` (R299). -/
def exec_bit_4_b (s : State) : Result := testBit s.cpu.b 4 2 s

/-- `BIT 4,C` (R299). -/
def exec_bit_4_c (s : State) : Result := testBit s.cpu.c 4 2 s

/-- `BIT 4,D` (R299). -/
def exec_bit_4_d (s : State) : Result := testBit s.cpu.d 4 2 s

/-- `BIT 4,E` (R299). -/
def exec_bit_4_e (s : State) : Result := testBit s.cpu.e 4 2 s

/-- `BIT 4,H` (R299). -/
def exec_bit_4_h (s : State) : Result := testBit s.cpu.h 4 2 s

/-- `BIT 4,L` (R299). -/
def exec_bit_4_l (s : State) : Result := testBit s.cpu.l 4 2 s

/-- `BIT 4,(HL)` (R299). -/
def exec_bit_4_mhl (s : State) : Result := testBit (s.read s.hl) 4 3 s

/-- `BIT 4,A` (R299). -/
def exec_bit_4_a (s : State) : Result := testBit s.cpu.a 4 2 s

/-- `BIT 5,B` (R299). -/
def exec_bit_5_b (s : State) : Result := testBit s.cpu.b 5 2 s

/-- `BIT 5,C` (R299). -/
def exec_bit_5_c (s : State) : Result := testBit s.cpu.c 5 2 s

/-- `BIT 5,D` (R299). -/
def exec_bit_5_d (s : State) : Result := testBit s.cpu.d 5 2 s

/-- `BIT 5,E` (R299). -/
def exec_bit_5_e (s : State) : Result := testBit s.cpu.e 5 2 s

/-- `BIT 5,H` (R299). -/
def exec_bit_5_h (s : State) : Result := testBit s.cpu.h 5 2 s

/-- `BIT 5,L` (R299). -/
def exec_bit_5_l (s : State) : Result := testBit s.cpu.l 5 2 s

/-- `BIT 5,(HL)` (R299). -/
def exec_bit_5_mhl (s : State) : Result := testBit (s.read s.hl) 5 3 s

/-- `BIT 5,A` (R299). -/
def exec_bit_5_a (s : State) : Result := testBit s.cpu.a 5 2 s

/-- `BIT 6,B` (R299). -/
def exec_bit_6_b (s : State) : Result := testBit s.cpu.b 6 2 s

/-- `BIT 6,C` (R299). -/
def exec_bit_6_c (s : State) : Result := testBit s.cpu.c 6 2 s

/-- `BIT 6,D` (R299). -/
def exec_bit_6_d (s : State) : Result := testBit s.cpu.d 6 2 s

/-- `BIT 6,E` (R299). -/
def exec_bit_6_e (s : State) : Result := testBit s.cpu.e 6 2 s

/-- `BIT 6,H` (R299). -/
def exec_bit_6_h (s : State) : Result := testBit s.cpu.h 6 2 s

/-- `BIT 6,L` (R299). -/
def exec_bit_6_l (s : State) : Result := testBit s.cpu.l 6 2 s

/-- `BIT 6,(HL)` (R299). -/
def exec_bit_6_mhl (s : State) : Result := testBit (s.read s.hl) 6 3 s

/-- `BIT 6,A` (R299). -/
def exec_bit_6_a (s : State) : Result := testBit s.cpu.a 6 2 s

/-- `BIT 7,B` (R299). -/
def exec_bit_7_b (s : State) : Result := testBit s.cpu.b 7 2 s

/-- `BIT 7,C` (R299). -/
def exec_bit_7_c (s : State) : Result := testBit s.cpu.c 7 2 s

/-- `BIT 7,D` (R299). -/
def exec_bit_7_d (s : State) : Result := testBit s.cpu.d 7 2 s

/-- `BIT 7,E` (R299). -/
def exec_bit_7_e (s : State) : Result := testBit s.cpu.e 7 2 s

/-- `BIT 7,H` (R299). -/
def exec_bit_7_h (s : State) : Result := testBit s.cpu.h 7 2 s

/-- `BIT 7,L` (R299). -/
def exec_bit_7_l (s : State) : Result := testBit s.cpu.l 7 2 s

/-- `BIT 7,(HL)` (R299). -/
def exec_bit_7_mhl (s : State) : Result := testBit (s.read s.hl) 7 3 s

/-- `BIT 7,A` (R299). -/
def exec_bit_7_a (s : State) : Result := testBit s.cpu.a 7 2 s

/-- `RES 0,B` (R300). -/
def exec_res_0_b (s : State) : Result := loadReg .b (resBit s.cpu.b 0) 2 s

/-- `RES 0,C` (R300). -/
def exec_res_0_c (s : State) : Result := loadReg .c (resBit s.cpu.c 0) 2 s

/-- `RES 0,D` (R300). -/
def exec_res_0_d (s : State) : Result := loadReg .d (resBit s.cpu.d 0) 2 s

/-- `RES 0,E` (R300). -/
def exec_res_0_e (s : State) : Result := loadReg .e (resBit s.cpu.e 0) 2 s

/-- `RES 0,H` (R300). -/
def exec_res_0_h (s : State) : Result := loadReg .h (resBit s.cpu.h 0) 2 s

/-- `RES 0,L` (R300). -/
def exec_res_0_l (s : State) : Result := loadReg .l (resBit s.cpu.l 0) 2 s

/-- `RES 0,(HL)` (R300). -/
def exec_res_0_mhl (s : State) : Result := storeByte s.hl (resBit (s.read s.hl) 0) 4 s

/-- `RES 0,A` (R300). -/
def exec_res_0_a (s : State) : Result := loadReg .a (resBit s.cpu.a 0) 2 s

/-- `RES 1,B` (R300). -/
def exec_res_1_b (s : State) : Result := loadReg .b (resBit s.cpu.b 1) 2 s

/-- `RES 1,C` (R300). -/
def exec_res_1_c (s : State) : Result := loadReg .c (resBit s.cpu.c 1) 2 s

/-- `RES 1,D` (R300). -/
def exec_res_1_d (s : State) : Result := loadReg .d (resBit s.cpu.d 1) 2 s

/-- `RES 1,E` (R300). -/
def exec_res_1_e (s : State) : Result := loadReg .e (resBit s.cpu.e 1) 2 s

/-- `RES 1,H` (R300). -/
def exec_res_1_h (s : State) : Result := loadReg .h (resBit s.cpu.h 1) 2 s

/-- `RES 1,L` (R300). -/
def exec_res_1_l (s : State) : Result := loadReg .l (resBit s.cpu.l 1) 2 s

/-- `RES 1,(HL)` (R300). -/
def exec_res_1_mhl (s : State) : Result := storeByte s.hl (resBit (s.read s.hl) 1) 4 s

/-- `RES 1,A` (R300). -/
def exec_res_1_a (s : State) : Result := loadReg .a (resBit s.cpu.a 1) 2 s

/-- `RES 2,B` (R300). -/
def exec_res_2_b (s : State) : Result := loadReg .b (resBit s.cpu.b 2) 2 s

/-- `RES 2,C` (R300). -/
def exec_res_2_c (s : State) : Result := loadReg .c (resBit s.cpu.c 2) 2 s

/-- `RES 2,D` (R300). -/
def exec_res_2_d (s : State) : Result := loadReg .d (resBit s.cpu.d 2) 2 s

/-- `RES 2,E` (R300). -/
def exec_res_2_e (s : State) : Result := loadReg .e (resBit s.cpu.e 2) 2 s

/-- `RES 2,H` (R300). -/
def exec_res_2_h (s : State) : Result := loadReg .h (resBit s.cpu.h 2) 2 s

/-- `RES 2,L` (R300). -/
def exec_res_2_l (s : State) : Result := loadReg .l (resBit s.cpu.l 2) 2 s

/-- `RES 2,(HL)` (R300). -/
def exec_res_2_mhl (s : State) : Result := storeByte s.hl (resBit (s.read s.hl) 2) 4 s

/-- `RES 2,A` (R300). -/
def exec_res_2_a (s : State) : Result := loadReg .a (resBit s.cpu.a 2) 2 s

/-- `RES 3,B` (R300). -/
def exec_res_3_b (s : State) : Result := loadReg .b (resBit s.cpu.b 3) 2 s

/-- `RES 3,C` (R300). -/
def exec_res_3_c (s : State) : Result := loadReg .c (resBit s.cpu.c 3) 2 s

/-- `RES 3,D` (R300). -/
def exec_res_3_d (s : State) : Result := loadReg .d (resBit s.cpu.d 3) 2 s

/-- `RES 3,E` (R300). -/
def exec_res_3_e (s : State) : Result := loadReg .e (resBit s.cpu.e 3) 2 s

/-- `RES 3,H` (R300). -/
def exec_res_3_h (s : State) : Result := loadReg .h (resBit s.cpu.h 3) 2 s

/-- `RES 3,L` (R300). -/
def exec_res_3_l (s : State) : Result := loadReg .l (resBit s.cpu.l 3) 2 s

/-- `RES 3,(HL)` (R300). -/
def exec_res_3_mhl (s : State) : Result := storeByte s.hl (resBit (s.read s.hl) 3) 4 s

/-- `RES 3,A` (R300). -/
def exec_res_3_a (s : State) : Result := loadReg .a (resBit s.cpu.a 3) 2 s

/-- `RES 4,B` (R300). -/
def exec_res_4_b (s : State) : Result := loadReg .b (resBit s.cpu.b 4) 2 s

/-- `RES 4,C` (R300). -/
def exec_res_4_c (s : State) : Result := loadReg .c (resBit s.cpu.c 4) 2 s

/-- `RES 4,D` (R300). -/
def exec_res_4_d (s : State) : Result := loadReg .d (resBit s.cpu.d 4) 2 s

/-- `RES 4,E` (R300). -/
def exec_res_4_e (s : State) : Result := loadReg .e (resBit s.cpu.e 4) 2 s

/-- `RES 4,H` (R300). -/
def exec_res_4_h (s : State) : Result := loadReg .h (resBit s.cpu.h 4) 2 s

/-- `RES 4,L` (R300). -/
def exec_res_4_l (s : State) : Result := loadReg .l (resBit s.cpu.l 4) 2 s

/-- `RES 4,(HL)` (R300). -/
def exec_res_4_mhl (s : State) : Result := storeByte s.hl (resBit (s.read s.hl) 4) 4 s

/-- `RES 4,A` (R300). -/
def exec_res_4_a (s : State) : Result := loadReg .a (resBit s.cpu.a 4) 2 s

/-- `RES 5,B` (R300). -/
def exec_res_5_b (s : State) : Result := loadReg .b (resBit s.cpu.b 5) 2 s

/-- `RES 5,C` (R300). -/
def exec_res_5_c (s : State) : Result := loadReg .c (resBit s.cpu.c 5) 2 s

/-- `RES 5,D` (R300). -/
def exec_res_5_d (s : State) : Result := loadReg .d (resBit s.cpu.d 5) 2 s

/-- `RES 5,E` (R300). -/
def exec_res_5_e (s : State) : Result := loadReg .e (resBit s.cpu.e 5) 2 s

/-- `RES 5,H` (R300). -/
def exec_res_5_h (s : State) : Result := loadReg .h (resBit s.cpu.h 5) 2 s

/-- `RES 5,L` (R300). -/
def exec_res_5_l (s : State) : Result := loadReg .l (resBit s.cpu.l 5) 2 s

/-- `RES 5,(HL)` (R300). -/
def exec_res_5_mhl (s : State) : Result := storeByte s.hl (resBit (s.read s.hl) 5) 4 s

/-- `RES 5,A` (R300). -/
def exec_res_5_a (s : State) : Result := loadReg .a (resBit s.cpu.a 5) 2 s

/-- `RES 6,B` (R300). -/
def exec_res_6_b (s : State) : Result := loadReg .b (resBit s.cpu.b 6) 2 s

/-- `RES 6,C` (R300). -/
def exec_res_6_c (s : State) : Result := loadReg .c (resBit s.cpu.c 6) 2 s

/-- `RES 6,D` (R300). -/
def exec_res_6_d (s : State) : Result := loadReg .d (resBit s.cpu.d 6) 2 s

/-- `RES 6,E` (R300). -/
def exec_res_6_e (s : State) : Result := loadReg .e (resBit s.cpu.e 6) 2 s

/-- `RES 6,H` (R300). -/
def exec_res_6_h (s : State) : Result := loadReg .h (resBit s.cpu.h 6) 2 s

/-- `RES 6,L` (R300). -/
def exec_res_6_l (s : State) : Result := loadReg .l (resBit s.cpu.l 6) 2 s

/-- `RES 6,(HL)` (R300). -/
def exec_res_6_mhl (s : State) : Result := storeByte s.hl (resBit (s.read s.hl) 6) 4 s

/-- `RES 6,A` (R300). -/
def exec_res_6_a (s : State) : Result := loadReg .a (resBit s.cpu.a 6) 2 s

/-- `RES 7,B` (R300). -/
def exec_res_7_b (s : State) : Result := loadReg .b (resBit s.cpu.b 7) 2 s

/-- `RES 7,C` (R300). -/
def exec_res_7_c (s : State) : Result := loadReg .c (resBit s.cpu.c 7) 2 s

/-- `RES 7,D` (R300). -/
def exec_res_7_d (s : State) : Result := loadReg .d (resBit s.cpu.d 7) 2 s

/-- `RES 7,E` (R300). -/
def exec_res_7_e (s : State) : Result := loadReg .e (resBit s.cpu.e 7) 2 s

/-- `RES 7,H` (R300). -/
def exec_res_7_h (s : State) : Result := loadReg .h (resBit s.cpu.h 7) 2 s

/-- `RES 7,L` (R300). -/
def exec_res_7_l (s : State) : Result := loadReg .l (resBit s.cpu.l 7) 2 s

/-- `RES 7,(HL)` (R300). -/
def exec_res_7_mhl (s : State) : Result := storeByte s.hl (resBit (s.read s.hl) 7) 4 s

/-- `RES 7,A` (R300). -/
def exec_res_7_a (s : State) : Result := loadReg .a (resBit s.cpu.a 7) 2 s

/-- `SET 0,B` (R301). -/
def exec_set_0_b (s : State) : Result := loadReg .b (setBit s.cpu.b 0) 2 s

/-- `SET 0,C` (R301). -/
def exec_set_0_c (s : State) : Result := loadReg .c (setBit s.cpu.c 0) 2 s

/-- `SET 0,D` (R301). -/
def exec_set_0_d (s : State) : Result := loadReg .d (setBit s.cpu.d 0) 2 s

/-- `SET 0,E` (R301). -/
def exec_set_0_e (s : State) : Result := loadReg .e (setBit s.cpu.e 0) 2 s

/-- `SET 0,H` (R301). -/
def exec_set_0_h (s : State) : Result := loadReg .h (setBit s.cpu.h 0) 2 s

/-- `SET 0,L` (R301). -/
def exec_set_0_l (s : State) : Result := loadReg .l (setBit s.cpu.l 0) 2 s

/-- `SET 0,(HL)` (R301). -/
def exec_set_0_mhl (s : State) : Result := storeByte s.hl (setBit (s.read s.hl) 0) 4 s

/-- `SET 0,A` (R301). -/
def exec_set_0_a (s : State) : Result := loadReg .a (setBit s.cpu.a 0) 2 s

/-- `SET 1,B` (R301). -/
def exec_set_1_b (s : State) : Result := loadReg .b (setBit s.cpu.b 1) 2 s

/-- `SET 1,C` (R301). -/
def exec_set_1_c (s : State) : Result := loadReg .c (setBit s.cpu.c 1) 2 s

/-- `SET 1,D` (R301). -/
def exec_set_1_d (s : State) : Result := loadReg .d (setBit s.cpu.d 1) 2 s

/-- `SET 1,E` (R301). -/
def exec_set_1_e (s : State) : Result := loadReg .e (setBit s.cpu.e 1) 2 s

/-- `SET 1,H` (R301). -/
def exec_set_1_h (s : State) : Result := loadReg .h (setBit s.cpu.h 1) 2 s

/-- `SET 1,L` (R301). -/
def exec_set_1_l (s : State) : Result := loadReg .l (setBit s.cpu.l 1) 2 s

/-- `SET 1,(HL)` (R301). -/
def exec_set_1_mhl (s : State) : Result := storeByte s.hl (setBit (s.read s.hl) 1) 4 s

/-- `SET 1,A` (R301). -/
def exec_set_1_a (s : State) : Result := loadReg .a (setBit s.cpu.a 1) 2 s

/-- `SET 2,B` (R301). -/
def exec_set_2_b (s : State) : Result := loadReg .b (setBit s.cpu.b 2) 2 s

/-- `SET 2,C` (R301). -/
def exec_set_2_c (s : State) : Result := loadReg .c (setBit s.cpu.c 2) 2 s

/-- `SET 2,D` (R301). -/
def exec_set_2_d (s : State) : Result := loadReg .d (setBit s.cpu.d 2) 2 s

/-- `SET 2,E` (R301). -/
def exec_set_2_e (s : State) : Result := loadReg .e (setBit s.cpu.e 2) 2 s

/-- `SET 2,H` (R301). -/
def exec_set_2_h (s : State) : Result := loadReg .h (setBit s.cpu.h 2) 2 s

/-- `SET 2,L` (R301). -/
def exec_set_2_l (s : State) : Result := loadReg .l (setBit s.cpu.l 2) 2 s

/-- `SET 2,(HL)` (R301). -/
def exec_set_2_mhl (s : State) : Result := storeByte s.hl (setBit (s.read s.hl) 2) 4 s

/-- `SET 2,A` (R301). -/
def exec_set_2_a (s : State) : Result := loadReg .a (setBit s.cpu.a 2) 2 s

/-- `SET 3,B` (R301). -/
def exec_set_3_b (s : State) : Result := loadReg .b (setBit s.cpu.b 3) 2 s

/-- `SET 3,C` (R301). -/
def exec_set_3_c (s : State) : Result := loadReg .c (setBit s.cpu.c 3) 2 s

/-- `SET 3,D` (R301). -/
def exec_set_3_d (s : State) : Result := loadReg .d (setBit s.cpu.d 3) 2 s

/-- `SET 3,E` (R301). -/
def exec_set_3_e (s : State) : Result := loadReg .e (setBit s.cpu.e 3) 2 s

/-- `SET 3,H` (R301). -/
def exec_set_3_h (s : State) : Result := loadReg .h (setBit s.cpu.h 3) 2 s

/-- `SET 3,L` (R301). -/
def exec_set_3_l (s : State) : Result := loadReg .l (setBit s.cpu.l 3) 2 s

/-- `SET 3,(HL)` (R301). -/
def exec_set_3_mhl (s : State) : Result := storeByte s.hl (setBit (s.read s.hl) 3) 4 s

/-- `SET 3,A` (R301). -/
def exec_set_3_a (s : State) : Result := loadReg .a (setBit s.cpu.a 3) 2 s

/-- `SET 4,B` (R301). -/
def exec_set_4_b (s : State) : Result := loadReg .b (setBit s.cpu.b 4) 2 s

/-- `SET 4,C` (R301). -/
def exec_set_4_c (s : State) : Result := loadReg .c (setBit s.cpu.c 4) 2 s

/-- `SET 4,D` (R301). -/
def exec_set_4_d (s : State) : Result := loadReg .d (setBit s.cpu.d 4) 2 s

/-- `SET 4,E` (R301). -/
def exec_set_4_e (s : State) : Result := loadReg .e (setBit s.cpu.e 4) 2 s

/-- `SET 4,H` (R301). -/
def exec_set_4_h (s : State) : Result := loadReg .h (setBit s.cpu.h 4) 2 s

/-- `SET 4,L` (R301). -/
def exec_set_4_l (s : State) : Result := loadReg .l (setBit s.cpu.l 4) 2 s

/-- `SET 4,(HL)` (R301). -/
def exec_set_4_mhl (s : State) : Result := storeByte s.hl (setBit (s.read s.hl) 4) 4 s

/-- `SET 4,A` (R301). -/
def exec_set_4_a (s : State) : Result := loadReg .a (setBit s.cpu.a 4) 2 s

/-- `SET 5,B` (R301). -/
def exec_set_5_b (s : State) : Result := loadReg .b (setBit s.cpu.b 5) 2 s

/-- `SET 5,C` (R301). -/
def exec_set_5_c (s : State) : Result := loadReg .c (setBit s.cpu.c 5) 2 s

/-- `SET 5,D` (R301). -/
def exec_set_5_d (s : State) : Result := loadReg .d (setBit s.cpu.d 5) 2 s

/-- `SET 5,E` (R301). -/
def exec_set_5_e (s : State) : Result := loadReg .e (setBit s.cpu.e 5) 2 s

/-- `SET 5,H` (R301). -/
def exec_set_5_h (s : State) : Result := loadReg .h (setBit s.cpu.h 5) 2 s

/-- `SET 5,L` (R301). -/
def exec_set_5_l (s : State) : Result := loadReg .l (setBit s.cpu.l 5) 2 s

/-- `SET 5,(HL)` (R301). -/
def exec_set_5_mhl (s : State) : Result := storeByte s.hl (setBit (s.read s.hl) 5) 4 s

/-- `SET 5,A` (R301). -/
def exec_set_5_a (s : State) : Result := loadReg .a (setBit s.cpu.a 5) 2 s

/-- `SET 6,B` (R301). -/
def exec_set_6_b (s : State) : Result := loadReg .b (setBit s.cpu.b 6) 2 s

/-- `SET 6,C` (R301). -/
def exec_set_6_c (s : State) : Result := loadReg .c (setBit s.cpu.c 6) 2 s

/-- `SET 6,D` (R301). -/
def exec_set_6_d (s : State) : Result := loadReg .d (setBit s.cpu.d 6) 2 s

/-- `SET 6,E` (R301). -/
def exec_set_6_e (s : State) : Result := loadReg .e (setBit s.cpu.e 6) 2 s

/-- `SET 6,H` (R301). -/
def exec_set_6_h (s : State) : Result := loadReg .h (setBit s.cpu.h 6) 2 s

/-- `SET 6,L` (R301). -/
def exec_set_6_l (s : State) : Result := loadReg .l (setBit s.cpu.l 6) 2 s

/-- `SET 6,(HL)` (R301). -/
def exec_set_6_mhl (s : State) : Result := storeByte s.hl (setBit (s.read s.hl) 6) 4 s

/-- `SET 6,A` (R301). -/
def exec_set_6_a (s : State) : Result := loadReg .a (setBit s.cpu.a 6) 2 s

/-- `SET 7,B` (R301). -/
def exec_set_7_b (s : State) : Result := loadReg .b (setBit s.cpu.b 7) 2 s

/-- `SET 7,C` (R301). -/
def exec_set_7_c (s : State) : Result := loadReg .c (setBit s.cpu.c 7) 2 s

/-- `SET 7,D` (R301). -/
def exec_set_7_d (s : State) : Result := loadReg .d (setBit s.cpu.d 7) 2 s

/-- `SET 7,E` (R301). -/
def exec_set_7_e (s : State) : Result := loadReg .e (setBit s.cpu.e 7) 2 s

/-- `SET 7,H` (R301). -/
def exec_set_7_h (s : State) : Result := loadReg .h (setBit s.cpu.h 7) 2 s

/-- `SET 7,L` (R301). -/
def exec_set_7_l (s : State) : Result := loadReg .l (setBit s.cpu.l 7) 2 s

/-- `SET 7,(HL)` (R301). -/
def exec_set_7_mhl (s : State) : Result := storeByte s.hl (setBit (s.read s.hl) 7) 4 s

/-- `SET 7,A` (R301). -/
def exec_set_7_a (s : State) : Result := loadReg .a (setBit s.cpu.a 7) 2 s

end Sys2Proof.Machine
end

