-- ==== Sys2Proof/Machine/CbRotate.lean ====
section
/-! DEFINITION. The rotates and shifts of the 0xCB page (R290 to R298). -/

namespace Sys2Proof.Machine

/-- `RLC B` (R291). -/
def exec_rlc_b (s : State) : Result := cbReg .b (rlc8 s.cpu.b) 2 s

/-- `RLC C` (R291). -/
def exec_rlc_c (s : State) : Result := cbReg .c (rlc8 s.cpu.c) 2 s

/-- `RLC D` (R291). -/
def exec_rlc_d (s : State) : Result := cbReg .d (rlc8 s.cpu.d) 2 s

/-- `RLC E` (R291). -/
def exec_rlc_e (s : State) : Result := cbReg .e (rlc8 s.cpu.e) 2 s

/-- `RLC H` (R291). -/
def exec_rlc_h (s : State) : Result := cbReg .h (rlc8 s.cpu.h) 2 s

/-- `RLC L` (R291). -/
def exec_rlc_l (s : State) : Result := cbReg .l (rlc8 s.cpu.l) 2 s

/-- `RLC (HL)` (R291). -/
def exec_rlc_mhl (s : State) : Result := cbMem (rlc8 (s.read s.hl)) 4 s

/-- `RLC A` (R291). -/
def exec_rlc_a (s : State) : Result := cbReg .a (rlc8 s.cpu.a) 2 s

/-- `RRC B` (R292). -/
def exec_rrc_b (s : State) : Result := cbReg .b (rrc8 s.cpu.b) 2 s

/-- `RRC C` (R292). -/
def exec_rrc_c (s : State) : Result := cbReg .c (rrc8 s.cpu.c) 2 s

/-- `RRC D` (R292). -/
def exec_rrc_d (s : State) : Result := cbReg .d (rrc8 s.cpu.d) 2 s

/-- `RRC E` (R292). -/
def exec_rrc_e (s : State) : Result := cbReg .e (rrc8 s.cpu.e) 2 s

/-- `RRC H` (R292). -/
def exec_rrc_h (s : State) : Result := cbReg .h (rrc8 s.cpu.h) 2 s

/-- `RRC L` (R292). -/
def exec_rrc_l (s : State) : Result := cbReg .l (rrc8 s.cpu.l) 2 s

/-- `RRC (HL)` (R292). -/
def exec_rrc_mhl (s : State) : Result := cbMem (rrc8 (s.read s.hl)) 4 s

/-- `RRC A` (R292). -/
def exec_rrc_a (s : State) : Result := cbReg .a (rrc8 s.cpu.a) 2 s

/-- `RL B` (R293). -/
def exec_rl_b (s : State) : Result := cbReg .b (rl8 s.cpu.b s.cpu.f.c) 2 s

/-- `RL C` (R293). -/
def exec_rl_c (s : State) : Result := cbReg .c (rl8 s.cpu.c s.cpu.f.c) 2 s

/-- `RL D` (R293). -/
def exec_rl_d (s : State) : Result := cbReg .d (rl8 s.cpu.d s.cpu.f.c) 2 s

/-- `RL E` (R293). -/
def exec_rl_e (s : State) : Result := cbReg .e (rl8 s.cpu.e s.cpu.f.c) 2 s

/-- `RL H` (R293). -/
def exec_rl_h (s : State) : Result := cbReg .h (rl8 s.cpu.h s.cpu.f.c) 2 s

/-- `RL L` (R293). -/
def exec_rl_l (s : State) : Result := cbReg .l (rl8 s.cpu.l s.cpu.f.c) 2 s

/-- `RL (HL)` (R293). -/
def exec_rl_mhl (s : State) : Result := cbMem (rl8 (s.read s.hl) s.cpu.f.c) 4 s

/-- `RL A` (R293). -/
def exec_rl_a (s : State) : Result := cbReg .a (rl8 s.cpu.a s.cpu.f.c) 2 s

/-- `RR B` (R294). -/
def exec_rr_b (s : State) : Result := cbReg .b (rr8 s.cpu.b s.cpu.f.c) 2 s

/-- `RR C` (R294). -/
def exec_rr_c (s : State) : Result := cbReg .c (rr8 s.cpu.c s.cpu.f.c) 2 s

/-- `RR D` (R294). -/
def exec_rr_d (s : State) : Result := cbReg .d (rr8 s.cpu.d s.cpu.f.c) 2 s

/-- `RR E` (R294). -/
def exec_rr_e (s : State) : Result := cbReg .e (rr8 s.cpu.e s.cpu.f.c) 2 s

/-- `RR H` (R294). -/
def exec_rr_h (s : State) : Result := cbReg .h (rr8 s.cpu.h s.cpu.f.c) 2 s

/-- `RR L` (R294). -/
def exec_rr_l (s : State) : Result := cbReg .l (rr8 s.cpu.l s.cpu.f.c) 2 s

/-- `RR (HL)` (R294). -/
def exec_rr_mhl (s : State) : Result := cbMem (rr8 (s.read s.hl) s.cpu.f.c) 4 s

/-- `RR A` (R294). -/
def exec_rr_a (s : State) : Result := cbReg .a (rr8 s.cpu.a s.cpu.f.c) 2 s

/-- `SLA B` (R295). -/
def exec_sla_b (s : State) : Result := cbReg .b (sla8 s.cpu.b) 2 s

/-- `SLA C` (R295). -/
def exec_sla_c (s : State) : Result := cbReg .c (sla8 s.cpu.c) 2 s

/-- `SLA D` (R295). -/
def exec_sla_d (s : State) : Result := cbReg .d (sla8 s.cpu.d) 2 s

/-- `SLA E` (R295). -/
def exec_sla_e (s : State) : Result := cbReg .e (sla8 s.cpu.e) 2 s

/-- `SLA H` (R295). -/
def exec_sla_h (s : State) : Result := cbReg .h (sla8 s.cpu.h) 2 s

/-- `SLA L` (R295). -/
def exec_sla_l (s : State) : Result := cbReg .l (sla8 s.cpu.l) 2 s

/-- `SLA (HL)` (R295). -/
def exec_sla_mhl (s : State) : Result := cbMem (sla8 (s.read s.hl)) 4 s

/-- `SLA A` (R295). -/
def exec_sla_a (s : State) : Result := cbReg .a (sla8 s.cpu.a) 2 s

/-- `SRA B` (R296). -/
def exec_sra_b (s : State) : Result := cbReg .b (sra8 s.cpu.b) 2 s

/-- `SRA C` (R296). -/
def exec_sra_c (s : State) : Result := cbReg .c (sra8 s.cpu.c) 2 s

/-- `SRA D` (R296). -/
def exec_sra_d (s : State) : Result := cbReg .d (sra8 s.cpu.d) 2 s

/-- `SRA E` (R296). -/
def exec_sra_e (s : State) : Result := cbReg .e (sra8 s.cpu.e) 2 s

/-- `SRA H` (R296). -/
def exec_sra_h (s : State) : Result := cbReg .h (sra8 s.cpu.h) 2 s

/-- `SRA L` (R296). -/
def exec_sra_l (s : State) : Result := cbReg .l (sra8 s.cpu.l) 2 s

/-- `SRA (HL)` (R296). -/
def exec_sra_mhl (s : State) : Result := cbMem (sra8 (s.read s.hl)) 4 s

/-- `SRA A` (R296). -/
def exec_sra_a (s : State) : Result := cbReg .a (sra8 s.cpu.a) 2 s

/-- `SWAP B` (R297). -/
def exec_swap_b (s : State) : Result := cbReg .b (swap8 s.cpu.b) 2 s

/-- `SWAP C` (R297). -/
def exec_swap_c (s : State) : Result := cbReg .c (swap8 s.cpu.c) 2 s

/-- `SWAP D` (R297). -/
def exec_swap_d (s : State) : Result := cbReg .d (swap8 s.cpu.d) 2 s

/-- `SWAP E` (R297). -/
def exec_swap_e (s : State) : Result := cbReg .e (swap8 s.cpu.e) 2 s

/-- `SWAP H` (R297). -/
def exec_swap_h (s : State) : Result := cbReg .h (swap8 s.cpu.h) 2 s

/-- `SWAP L` (R297). -/
def exec_swap_l (s : State) : Result := cbReg .l (swap8 s.cpu.l) 2 s

/-- `SWAP (HL)` (R297). -/
def exec_swap_mhl (s : State) : Result := cbMem (swap8 (s.read s.hl)) 4 s

/-- `SWAP A` (R297). -/
def exec_swap_a (s : State) : Result := cbReg .a (swap8 s.cpu.a) 2 s

/-- `SRL B` (R298). -/
def exec_srl_b (s : State) : Result := cbReg .b (srl8 s.cpu.b) 2 s

/-- `SRL C` (R298). -/
def exec_srl_c (s : State) : Result := cbReg .c (srl8 s.cpu.c) 2 s

/-- `SRL D` (R298). -/
def exec_srl_d (s : State) : Result := cbReg .d (srl8 s.cpu.d) 2 s

/-- `SRL E` (R298). -/
def exec_srl_e (s : State) : Result := cbReg .e (srl8 s.cpu.e) 2 s

/-- `SRL H` (R298). -/
def exec_srl_h (s : State) : Result := cbReg .h (srl8 s.cpu.h) 2 s

/-- `SRL L` (R298). -/
def exec_srl_l (s : State) : Result := cbReg .l (srl8 s.cpu.l) 2 s

/-- `SRL (HL)` (R298). -/
def exec_srl_mhl (s : State) : Result := cbMem (srl8 (s.read s.hl)) 4 s

/-- `SRL A` (R298). -/
def exec_srl_a (s : State) : Result := cbReg .a (srl8 s.cpu.a) 2 s

end Sys2Proof.Machine
end

