-- ==== Sys2Proof/Machine/Control.lean ====
section
/-! DEFINITION. The control transfers (R270 to R281) and the continuations of the taken conditional ones. -/

namespace Sys2Proof.Machine

/-- An unconditional jump, also the continuation of a taken `JP cc,nn` (R271 to R274). -/
def jumpTo (target : Word) (cost : Nat) (s : State) : Result := .next ((s.setPc target).charge cost)

/-- An unconditional call, also `RST` and the continuation of a taken `CALL cc,nn` (R276, R277, R281). -/
def callTo (target : Word) (cost : Nat) (s : State) : Result :=
  andThen (s.push16 s.cpu.pc) fun t => .next ((t.setPc target).charge cost)

/-- The first Command of a conditional transfer (R270, R313): its not-taken cost, and the continuation `k`, cut as
the machine cuts it, in the queue where the condition holds. -/
def continueIf (taken : Bool) (k : Command) (cost : Nat) (s : State) : Result :=
  if taken then .next ((s.setQueue (some (s.cut k))).charge cost) else .next (s.charge cost)

/-- `JR e` (R274). -/
def exec_jr_e (e : Byte) (s : State) : Result := jumpTo (relative s.cpu.pc e) 3 s

/-- `JR NZ,e` (R275). -/
def exec_jr_nz_e (e : Byte) (s : State) : Result := continueIf (s.cond .nz) (.jumpBy .nz e) 2 s

/-- `JR Z,e` (R275). -/
def exec_jr_z_e (e : Byte) (s : State) : Result := continueIf (s.cond .z) (.jumpBy .z e) 2 s

/-- `JR NC,e` (R275). -/
def exec_jr_nc_e (e : Byte) (s : State) : Result := continueIf (s.cond .nc) (.jumpBy .nc e) 2 s

/-- `JR C,e` (R275). -/
def exec_jr_c_e (e : Byte) (s : State) : Result := continueIf (s.cond .c) (.jumpBy .c e) 2 s

/-- `RET NZ` (R279). -/
def exec_ret_nz (s : State) : Result := continueIf (s.cond .nz) (.ret .nz) 2 s

/-- `JP NZ,nn` (R272). -/
def exec_jp_nz_nn (nn : Word) (s : State) : Result := continueIf (s.cond .nz) (.jumpTo .nz nn) 3 s

/-- `JP nn` (R271). -/
def exec_jp_nn (nn : Word) (s : State) : Result := jumpTo nn 4 s

/-- `CALL NZ,nn` (R277). -/
def exec_call_nz_nn (nn : Word) (s : State) : Result := continueIf (s.cond .nz) (.callTo .nz nn) 3 s

/-- `RST 0x00` (R281). -/
def exec_rst_00 (s : State) : Result := callTo 0x0000 4 s

/-- `RET Z` (R279). -/
def exec_ret_z (s : State) : Result := continueIf (s.cond .z) (.ret .z) 2 s

/-- `RET` (R278). -/
def exec_ret (s : State) : Result := returnFrom 4 s

/-- `JP Z,nn` (R272). -/
def exec_jp_z_nn (nn : Word) (s : State) : Result := continueIf (s.cond .z) (.jumpTo .z nn) 3 s

/-- `CALL Z,nn` (R277). -/
def exec_call_z_nn (nn : Word) (s : State) : Result := continueIf (s.cond .z) (.callTo .z nn) 3 s

/-- `CALL nn` (R276). -/
def exec_call_nn (nn : Word) (s : State) : Result := callTo nn 6 s

/-- `RST 0x08` (R281). -/
def exec_rst_08 (s : State) : Result := callTo 0x0008 4 s

/-- `RET NC` (R279). -/
def exec_ret_nc (s : State) : Result := continueIf (s.cond .nc) (.ret .nc) 2 s

/-- `JP NC,nn` (R272). -/
def exec_jp_nc_nn (nn : Word) (s : State) : Result := continueIf (s.cond .nc) (.jumpTo .nc nn) 3 s

/-- `CALL NC,nn` (R277). -/
def exec_call_nc_nn (nn : Word) (s : State) : Result := continueIf (s.cond .nc) (.callTo .nc nn) 3 s

/-- `RST 0x10` (R281). -/
def exec_rst_10 (s : State) : Result := callTo 0x0010 4 s

/-- `RET C` (R279). -/
def exec_ret_c (s : State) : Result := continueIf (s.cond .c) (.ret .c) 2 s

/-- `RETI` (R280). -/
def exec_reti (s : State) : Result := returnFrom 4 (s.setIme true)

/-- `JP C,nn` (R272). -/
def exec_jp_c_nn (nn : Word) (s : State) : Result := continueIf (s.cond .c) (.jumpTo .c nn) 3 s

/-- `CALL C,nn` (R277). -/
def exec_call_c_nn (nn : Word) (s : State) : Result := continueIf (s.cond .c) (.callTo .c nn) 3 s

/-- `RST 0x18` (R281). -/
def exec_rst_18 (s : State) : Result := callTo 0x0018 4 s

/-- `RST 0x20` (R281). -/
def exec_rst_20 (s : State) : Result := callTo 0x0020 4 s

/-- `JP HL` (R273). -/
def exec_jp_hl (s : State) : Result := jumpTo s.hl 1 s

/-- `RST 0x28` (R281). -/
def exec_rst_28 (s : State) : Result := callTo 0x0028 4 s

/-- `RST 0x30` (R281). -/
def exec_rst_30 (s : State) : Result := callTo 0x0030 4 s

/-- `RST 0x38` (R281). -/
def exec_rst_38 (s : State) : Result := callTo 0x0038 4 s

end Sys2Proof.Machine
end

