-- ==== Sys2Proof/Machine/Fatal.lean ====
section
/-! DEFINITION. The prefix byte on its own (R138) and the eleven unmapped base bytes (R139, R331). -/

namespace Sys2Proof.Machine

/-- The fetch step after a 0xCB byte (R138, R314): the second byte is read and the Command of its row becomes the
only element of the queue; this costs nothing by itself. -/
def fetchCb (s : State) : Result :=
  .next ((s.setPc (s.cpu.pc + 1)).setQueue (some (s.cut (.exec (decodeCb (s.read s.cpu.pc))))))

/-- `raise InstructionNotFound(op)` (R139, R331). -/
def unmapped (op : Byte) (_s : State) : Result := .fault (.instructionNotFound op false)

/-- `PREFIX CB` (R138). -/
def exec_prefix_cb (s : State) : Result := fetchCb s

/-- `ILLEGAL_D3` (R139). -/
def exec_illegal_d3 (s : State) : Result := unmapped 0xD3 s

/-- `ILLEGAL_DB` (R139). -/
def exec_illegal_db (s : State) : Result := unmapped 0xDB s

/-- `ILLEGAL_DD` (R139). -/
def exec_illegal_dd (s : State) : Result := unmapped 0xDD s

/-- `ILLEGAL_E3` (R139). -/
def exec_illegal_e3 (s : State) : Result := unmapped 0xE3 s

/-- `ILLEGAL_E4` (R139). -/
def exec_illegal_e4 (s : State) : Result := unmapped 0xE4 s

/-- `ILLEGAL_EB` (R139). -/
def exec_illegal_eb (s : State) : Result := unmapped 0xEB s

/-- `ILLEGAL_EC` (R139). -/
def exec_illegal_ec (s : State) : Result := unmapped 0xEC s

/-- `ILLEGAL_ED` (R139). -/
def exec_illegal_ed (s : State) : Result := unmapped 0xED s

/-- `ILLEGAL_F4` (R139). -/
def exec_illegal_f4 (s : State) : Result := unmapped 0xF4 s

/-- `ILLEGAL_FC` (R139). -/
def exec_illegal_fc (s : State) : Result := unmapped 0xFC s

/-- `ILLEGAL_FD` (R139). -/
def exec_illegal_fd (s : State) : Result := unmapped 0xFD s

end Sys2Proof.Machine
end

