-- ==== Sys2Proof/Machine/Load16.lean ====
section
/-! DEFINITION. The 16-bit loads and the stack (R190 to R196). -/

namespace Sys2Proof.Machine

/-- `PUSH qq` (R194). -/
def pushWord (w : Word) (cost : Nat) (s : State) : Result :=
  andThen (s.push16 w) fun t => .next (t.charge cost)

/-- `POP qq` (R195, R196). -/
def popPair (p : StackPair) (cost : Nat) (s : State) : Result :=
  .next ((s.popped.setStackPair p (s.readWord s.cpu.sp)).charge cost)

/-- `LD HL,SP+e` (R193). -/
def loadHlSp (e : Byte) (cost : Nat) (s : State) : Result :=
  .next (((s.setPair .hl (s.cpu.sp + sext e)).setFlags (addSpFlags s.cpu.sp e)).charge cost)

/-- `LD BC,nn` (R190). -/
def exec_ld_bc_nn (nn : Word) (s : State) : Result := loadPair .bc nn 3 s

/-- `LD (nn),SP` (R191). -/
def exec_ld_mnn_sp (nn : Word) (s : State) : Result := storeWord nn s.cpu.sp 5 s

/-- `LD DE,nn` (R190). -/
def exec_ld_de_nn (nn : Word) (s : State) : Result := loadPair .de nn 3 s

/-- `LD HL,nn` (R190). -/
def exec_ld_hl_nn (nn : Word) (s : State) : Result := loadPair .hl nn 3 s

/-- `LD SP,nn` (R190). -/
def exec_ld_sp_nn (nn : Word) (s : State) : Result := loadPair .sp nn 3 s

/-- `POP BC` (R195). -/
def exec_pop_bc (s : State) : Result := popPair .bc 3 s

/-- `PUSH BC` (R194). -/
def exec_push_bc (s : State) : Result := pushWord (s.stackPair .bc) 4 s

/-- `POP DE` (R195). -/
def exec_pop_de (s : State) : Result := popPair .de 3 s

/-- `PUSH DE` (R194). -/
def exec_push_de (s : State) : Result := pushWord (s.stackPair .de) 4 s

/-- `POP HL` (R195). -/
def exec_pop_hl (s : State) : Result := popPair .hl 3 s

/-- `PUSH HL` (R194). -/
def exec_push_hl (s : State) : Result := pushWord (s.stackPair .hl) 4 s

/-- `POP AF` (R196). -/
def exec_pop_af (s : State) : Result := popPair .af 3 s

/-- `PUSH AF` (R194). -/
def exec_push_af (s : State) : Result := pushWord (s.stackPair .af) 4 s

/-- `LD HL,SP+e` (R193). -/
def exec_ld_hl_sp_e (e : Byte) (s : State) : Result := loadHlSp e 3 s

/-- `LD SP,HL` (R192). -/
def exec_ld_sp_hl (s : State) : Result := loadPair .sp s.hl 2 s

end Sys2Proof.Machine
end

