-- ==== Sys2Proof/Machine/Load8.lean ====
section
/-! DEFINITION. The 8-bit loads (R160 to R178). No load writes a flag. -/

namespace Sys2Proof.Machine

/-- `LD A,(HL+)` and `LD A,(HL-)`: `A` from the old `HL`, then `HL` gets `next` (R175, R176). -/
def loadAStepHl (next : Word) (cost : Nat) (s : State) : Result :=
  .next (((s.setReg .a (s.read s.hl)).setPair .hl next).charge cost)

/-- `LD (HL+),A` and `LD (HL-),A`: `A` to the old `HL`, then `HL` gets `next` (R177, R178). -/
def storeAStepHl (next : Word) (cost : Nat) (s : State) : Result :=
  andThen (s.writeByte s.hl s.cpu.a) fun t => .next ((t.setPair .hl next).charge cost)

/-- `LD (BC),A` (R167). -/
def exec_ld_mbc_a (s : State) : Result := storeByte (s.pair .bc) s.cpu.a 2 s

/-- `LD B,n` (R161). -/
def exec_ld_b_n (n : Byte) (s : State) : Result := loadReg .b n 2 s

/-- `LD A,(BC)` (R165). -/
def exec_ld_a_mbc (s : State) : Result := loadReg .a (s.read (s.pair .bc)) 2 s

/-- `LD C,n` (R161). -/
def exec_ld_c_n (n : Byte) (s : State) : Result := loadReg .c n 2 s

/-- `LD (DE),A` (R168). -/
def exec_ld_mde_a (s : State) : Result := storeByte (s.pair .de) s.cpu.a 2 s

/-- `LD D,n` (R161). -/
def exec_ld_d_n (n : Byte) (s : State) : Result := loadReg .d n 2 s

/-- `LD A,(DE)` (R166). -/
def exec_ld_a_mde (s : State) : Result := loadReg .a (s.read (s.pair .de)) 2 s

/-- `LD E,n` (R161). -/
def exec_ld_e_n (n : Byte) (s : State) : Result := loadReg .e n 2 s

/-- `LD (HL+),A` (R177). -/
def exec_ld_mhli_a (s : State) : Result := storeAStepHl (s.hl + 1) 2 s

/-- `LD H,n` (R161). -/
def exec_ld_h_n (n : Byte) (s : State) : Result := loadReg .h n 2 s

/-- `LD A,(HL+)` (R175). -/
def exec_ld_a_mhli (s : State) : Result := loadAStepHl (s.hl + 1) 2 s

/-- `LD L,n` (R161). -/
def exec_ld_l_n (n : Byte) (s : State) : Result := loadReg .l n 2 s

/-- `LD (HL-),A` (R178). -/
def exec_ld_mhld_a (s : State) : Result := storeAStepHl (s.hl - 1) 2 s

/-- `LD (HL),n` (R164). -/
def exec_ld_mhl_n (n : Byte) (s : State) : Result := storeByte s.hl n 3 s

/-- `LD A,(HL-)` (R176). -/
def exec_ld_a_mhld (s : State) : Result := loadAStepHl (s.hl - 1) 2 s

/-- `LD A,n` (R161). -/
def exec_ld_a_n (n : Byte) (s : State) : Result := loadReg .a n 2 s

/-- `LD B,B` (R160). -/
def exec_ld_b_b (s : State) : Result := loadReg .b s.cpu.b 1 s

/-- `LD B,C` (R160). -/
def exec_ld_b_c (s : State) : Result := loadReg .b s.cpu.c 1 s

/-- `LD B,D` (R160). -/
def exec_ld_b_d (s : State) : Result := loadReg .b s.cpu.d 1 s

/-- `LD B,E` (R160). -/
def exec_ld_b_e (s : State) : Result := loadReg .b s.cpu.e 1 s

/-- `LD B,H` (R160). -/
def exec_ld_b_h (s : State) : Result := loadReg .b s.cpu.h 1 s

/-- `LD B,L` (R160). -/
def exec_ld_b_l (s : State) : Result := loadReg .b s.cpu.l 1 s

/-- `LD B,(HL)` (R162). -/
def exec_ld_b_mhl (s : State) : Result := loadReg .b (s.read s.hl) 2 s

/-- `LD B,A` (R160). -/
def exec_ld_b_a (s : State) : Result := loadReg .b s.cpu.a 1 s

/-- `LD C,B` (R160). -/
def exec_ld_c_b (s : State) : Result := loadReg .c s.cpu.b 1 s

/-- `LD C,C` (R160). -/
def exec_ld_c_c (s : State) : Result := loadReg .c s.cpu.c 1 s

/-- `LD C,D` (R160). -/
def exec_ld_c_d (s : State) : Result := loadReg .c s.cpu.d 1 s

/-- `LD C,E` (R160). -/
def exec_ld_c_e (s : State) : Result := loadReg .c s.cpu.e 1 s

/-- `LD C,H` (R160). -/
def exec_ld_c_h (s : State) : Result := loadReg .c s.cpu.h 1 s

/-- `LD C,L` (R160). -/
def exec_ld_c_l (s : State) : Result := loadReg .c s.cpu.l 1 s

/-- `LD C,(HL)` (R162). -/
def exec_ld_c_mhl (s : State) : Result := loadReg .c (s.read s.hl) 2 s

/-- `LD C,A` (R160). -/
def exec_ld_c_a (s : State) : Result := loadReg .c s.cpu.a 1 s

/-- `LD D,B` (R160). -/
def exec_ld_d_b (s : State) : Result := loadReg .d s.cpu.b 1 s

/-- `LD D,C` (R160). -/
def exec_ld_d_c (s : State) : Result := loadReg .d s.cpu.c 1 s

/-- `LD D,D` (R160). -/
def exec_ld_d_d (s : State) : Result := loadReg .d s.cpu.d 1 s

/-- `LD D,E` (R160). -/
def exec_ld_d_e (s : State) : Result := loadReg .d s.cpu.e 1 s

/-- `LD D,H` (R160). -/
def exec_ld_d_h (s : State) : Result := loadReg .d s.cpu.h 1 s

/-- `LD D,L` (R160). -/
def exec_ld_d_l (s : State) : Result := loadReg .d s.cpu.l 1 s

/-- `LD D,(HL)` (R162). -/
def exec_ld_d_mhl (s : State) : Result := loadReg .d (s.read s.hl) 2 s

/-- `LD D,A` (R160). -/
def exec_ld_d_a (s : State) : Result := loadReg .d s.cpu.a 1 s

/-- `LD E,B` (R160). -/
def exec_ld_e_b (s : State) : Result := loadReg .e s.cpu.b 1 s

/-- `LD E,C` (R160). -/
def exec_ld_e_c (s : State) : Result := loadReg .e s.cpu.c 1 s

/-- `LD E,D` (R160). -/
def exec_ld_e_d (s : State) : Result := loadReg .e s.cpu.d 1 s

/-- `LD E,E` (R160). -/
def exec_ld_e_e (s : State) : Result := loadReg .e s.cpu.e 1 s

/-- `LD E,H` (R160). -/
def exec_ld_e_h (s : State) : Result := loadReg .e s.cpu.h 1 s

/-- `LD E,L` (R160). -/
def exec_ld_e_l (s : State) : Result := loadReg .e s.cpu.l 1 s

/-- `LD E,(HL)` (R162). -/
def exec_ld_e_mhl (s : State) : Result := loadReg .e (s.read s.hl) 2 s

/-- `LD E,A` (R160). -/
def exec_ld_e_a (s : State) : Result := loadReg .e s.cpu.a 1 s

/-- `LD H,B` (R160). -/
def exec_ld_h_b (s : State) : Result := loadReg .h s.cpu.b 1 s

/-- `LD H,C` (R160). -/
def exec_ld_h_c (s : State) : Result := loadReg .h s.cpu.c 1 s

/-- `LD H,D` (R160). -/
def exec_ld_h_d (s : State) : Result := loadReg .h s.cpu.d 1 s

/-- `LD H,E` (R160). -/
def exec_ld_h_e (s : State) : Result := loadReg .h s.cpu.e 1 s

/-- `LD H,H` (R160). -/
def exec_ld_h_h (s : State) : Result := loadReg .h s.cpu.h 1 s

/-- `LD H,L` (R160). -/
def exec_ld_h_l (s : State) : Result := loadReg .h s.cpu.l 1 s

/-- `LD H,(HL)` (R162). -/
def exec_ld_h_mhl (s : State) : Result := loadReg .h (s.read s.hl) 2 s

/-- `LD H,A` (R160). -/
def exec_ld_h_a (s : State) : Result := loadReg .h s.cpu.a 1 s

/-- `LD L,B` (R160). -/
def exec_ld_l_b (s : State) : Result := loadReg .l s.cpu.b 1 s

/-- `LD L,C` (R160). -/
def exec_ld_l_c (s : State) : Result := loadReg .l s.cpu.c 1 s

/-- `LD L,D` (R160). -/
def exec_ld_l_d (s : State) : Result := loadReg .l s.cpu.d 1 s

/-- `LD L,E` (R160). -/
def exec_ld_l_e (s : State) : Result := loadReg .l s.cpu.e 1 s

/-- `LD L,H` (R160). -/
def exec_ld_l_h (s : State) : Result := loadReg .l s.cpu.h 1 s

/-- `LD L,L` (R160). -/
def exec_ld_l_l (s : State) : Result := loadReg .l s.cpu.l 1 s

/-- `LD L,(HL)` (R162). -/
def exec_ld_l_mhl (s : State) : Result := loadReg .l (s.read s.hl) 2 s

/-- `LD L,A` (R160). -/
def exec_ld_l_a (s : State) : Result := loadReg .l s.cpu.a 1 s

/-- `LD (HL),B` (R163). -/
def exec_ld_mhl_b (s : State) : Result := storeByte s.hl s.cpu.b 2 s

/-- `LD (HL),C` (R163). -/
def exec_ld_mhl_c (s : State) : Result := storeByte s.hl s.cpu.c 2 s

/-- `LD (HL),D` (R163). -/
def exec_ld_mhl_d (s : State) : Result := storeByte s.hl s.cpu.d 2 s

/-- `LD (HL),E` (R163). -/
def exec_ld_mhl_e (s : State) : Result := storeByte s.hl s.cpu.e 2 s

/-- `LD (HL),H` (R163). -/
def exec_ld_mhl_h (s : State) : Result := storeByte s.hl s.cpu.h 2 s

/-- `LD (HL),L` (R163). -/
def exec_ld_mhl_l (s : State) : Result := storeByte s.hl s.cpu.l 2 s

/-- `LD (HL),A` (R163). -/
def exec_ld_mhl_a (s : State) : Result := storeByte s.hl s.cpu.a 2 s

/-- `LD A,B` (R160). -/
def exec_ld_a_b (s : State) : Result := loadReg .a s.cpu.b 1 s

/-- `LD A,C` (R160). -/
def exec_ld_a_c (s : State) : Result := loadReg .a s.cpu.c 1 s

/-- `LD A,D` (R160). -/
def exec_ld_a_d (s : State) : Result := loadReg .a s.cpu.d 1 s

/-- `LD A,E` (R160). -/
def exec_ld_a_e (s : State) : Result := loadReg .a s.cpu.e 1 s

/-- `LD A,H` (R160). -/
def exec_ld_a_h (s : State) : Result := loadReg .a s.cpu.h 1 s

/-- `LD A,L` (R160). -/
def exec_ld_a_l (s : State) : Result := loadReg .a s.cpu.l 1 s

/-- `LD A,(HL)` (R162). -/
def exec_ld_a_mhl (s : State) : Result := loadReg .a (s.read s.hl) 2 s

/-- `LD A,A` (R160). -/
def exec_ld_a_a (s : State) : Result := loadReg .a s.cpu.a 1 s

/-- `LDH (n),A` (R174). -/
def exec_ldh_mn_a (n : Byte) (s : State) : Result := storeByte (highPage n) s.cpu.a 3 s

/-- `LDH (C),A` (R172). -/
def exec_ldh_mc_a (s : State) : Result := storeByte (highPage s.cpu.c) s.cpu.a 2 s

/-- `LD (nn),A` (R170). -/
def exec_ld_mnn_a (nn : Word) (s : State) : Result := storeByte nn s.cpu.a 4 s

/-- `LDH A,(n)` (R173). -/
def exec_ldh_a_mn (n : Byte) (s : State) : Result := loadReg .a (s.read (highPage n)) 3 s

/-- `LDH A,(C)` (R171). -/
def exec_ldh_a_mc (s : State) : Result := loadReg .a (s.read (highPage s.cpu.c)) 2 s

/-- `LD A,(nn)` (R169). -/
def exec_ld_a_mnn (nn : Word) (s : State) : Result := loadReg .a (s.read nn) 4 s

end Sys2Proof.Machine
end

