-- ==== Sys2Proof/Machine/Misc.lean ====
section
/-! DEFINITION. The accumulator rotates, the decimal and flag operations, and CPU control (R250 to R262). -/

namespace Sys2Proof.Machine

/-- One turn of `HaltWait` (R259), cost 1: the wait ends where an enabled interrupt is pending, whatever `IME` is. -/
def haltTurn (s : State) : Result :=
  if s.pending != 0 then .next (s.charge 1) else .next ((s.setQueue (some .haltWait)).charge 1)

/-- One turn of the wait of `STOP` under `waitJoypad` (R260), cost 1: it ends where `IF` bit 4 is set. The first
turn belongs to the Command that skips the second byte (DESIGN CHOICE, log 6). -/
def stopTurn (s : State) : Result :=
  if (s.read 0xFF0F).getLsbD 4 then .next (s.charge 1) else .next ((s.setQueue (some .stopWait)).charge 1)

/-- `STOP` by the parameter `STOP_BEHAVIOUR` (R260); its second byte is already fetched. -/
def stopByParam (s : State) : Result :=
  match s.params.stop with
  | .refuse => .fault (.instructionNotImplemented 0x10)
  | .nop2 => .next (s.charge 1)
  | .waitJoypad => stopTurn s

/-- `NOP` (R258). -/
def exec_nop (s : State) : Result := .next (s.charge 1)

/-- `RLCA` (R250). -/
def exec_rlca (s : State) : Result := writeA (clearZ (rlc8 s.cpu.a)) 1 s

/-- `RRCA` (R251). -/
def exec_rrca (s : State) : Result := writeA (clearZ (rrc8 s.cpu.a)) 1 s

/-- `STOP` (R260). -/
def exec_stop (s : State) : Result := stopByParam s

/-- `RLA` (R252). -/
def exec_rla (s : State) : Result := writeA (clearZ (rl8 s.cpu.a s.cpu.f.c)) 1 s

/-- `RRA` (R253). -/
def exec_rra (s : State) : Result := writeA (clearZ (rr8 s.cpu.a s.cpu.f.c)) 1 s

/-- `DAA` (R254). -/
def exec_daa (s : State) : Result := writeA (daa8 s.cpu.a s.cpu.f) 1 s

/-- `CPL` (R255). -/
def exec_cpl (s : State) : Result := writeA { value := ~~~s.cpu.a, flags := { s.cpu.f with n := true, h := true } } 1 s

/-- `SCF` (R256). -/
def exec_scf (s : State) : Result := flagsOnly { s.cpu.f with n := false, h := false, c := true } 1 s

/-- `CCF` (R257). -/
def exec_ccf (s : State) : Result := flagsOnly { s.cpu.f with n := false, h := false, c := !s.cpu.f.c } 1 s

/-- `HALT` (R259). -/
def exec_halt (s : State) : Result := haltTurn s

/-- `DI` (R261). -/
def exec_di (s : State) : Result := .next ((s.setIme false).charge 1)

/-- `EI` (R262). -/
def exec_ei (s : State) : Result := .next ((s.setIme true).charge 1)

end Sys2Proof.Machine
end

