-- ==== Sys2Proof/Machine/RunLoop.lean ====
section
/-! DEFINITION. The CPU's run loop (R310 to R315): one turn of `CPU.run`; the fetch step; and how a program's bytes
come to stand where the next fetch reads. -/

namespace Sys2Proof.Machine

/-- The instruction whose bytes start at `PC` (R314, R138), read from the bus now. -/
def State.fetched (s : State) : Instr :=
  decode3 (s.read s.cpu.pc) (s.read (s.cpu.pc + 1)) (s.read (s.cpu.pc + 2))

/-- The state with `PC` past an instruction of this length (R25). -/
def State.past (s : State) (i : Instr) : State := s.setPc (s.cpu.pc + BitVec.ofNat 16 i.length)

/-- Run a Command that is off the queue (R310 to R312); its cost is settled already. -/
def runCommand (c : Command) (s : State) : Result :=
  match c with
  | .after n next => .next ((s.setQueue (some next)).charge n)
  | .exec i => exec i s
  | .jumpTo _ target => jumpTo target 1 s
  | .jumpBy _ e => jumpTo (relative s.cpu.pc e) 1 s
  | .callTo _ target => callTo target 3 s
  | .ret _ => returnFrom 3 s
  | .haltWait => haltTurn s
  | .stopWait => stopTurn s

/-- The Commands of the instruction at `PC`: what the fetch step puts into the queue (R314). -/
def State.fetchedCommand (s : State) : Command := s.cut (.exec s.fetched)

/-- The fetch step and the first Command of the fetched instruction (R310: always in the same `CPU.run` call with
no other unit between them; D43). -/
def fetchTurn (s : State) : Result :=
  runCommand s.fetchedCommand ((s.past s.fetched).settle s.fetchedCommand)

/-- One turn of the loop of `CPU.run` (R310): return where the credit is used up; run the queued Command; take the
interrupt that is due; else fetch. -/
def cpuTurn (s : State) : Result :=
  if s.cpu.credit ≤ 0 then .next (s.setPhase (.mmu Config.dmaBudget))
  else
    match s.cpu.queue with
    | some c => runCommand c ((s.setQueue none).settle c)
    | none => if s.interruptDue then s.takeInterrupt (lowestBit s.pending) else fetchTurn s

/-- `CPU.run(114)` is called (R310): the budget is added to the credit, a debt included (D3). -/
def State.enterCpu (s : State) : State :=
  { s with cpu := { s.cpu with credit := s.cpu.credit + Config.cpuBudget } }.setPhase .cpu

/-- Put a byte where an address is read from, whatever the block allows (from outside the machine). -/
def State.supply (s : State) (a : Word) (v : Byte) : State :=
  match s.place a with
  | .bios i => { s with bios := Memory.biosPut s.bios i v }
  | .rom i =>
    match s.cart with
    | some c => { s with cart := some { c with rom := Memory.write c.rom i v } }
    | none => s
  | .disabled =>
    match s.cart with
    | some c =>
      { s with cart := some { c with ramEnable := true, ram := Memory.write c.ram (c.ramOffset a.toNat) v } }
    | none => s
  | p => s.placeWrite p v

/-- Three bytes at `PC`, enough for the longest instruction. -/
def State.supplyAtPc (s : State) (b0 b1 b2 : Byte) : State :=
  ((s.supply s.cpu.pc b0).supply (s.cpu.pc + 1) b1).supply (s.cpu.pc + 2) b2

/-- Make the very next step a fetch where it is not one: the CPU's turn, with credit, an empty queue and no
interrupt due. A state that is already about to fetch is unchanged. -/
def State.readyToFetch (s : State) : State :=
  let s1 := if s.cpu.queue.isSome then s.setQueue none else s
  let s2 := if s1.interruptDue then s1.setIme false else s1
  match s2.clock.phase with
  | .cpu => if s2.cpu.credit ≤ 0 then { s2 with cpu := { s2.cpu with credit := 1 } } else s2
  | .cpuCall =>
    if s2.cpu.credit + Config.cpuBudget ≤ 0 then { s2 with cpu := { s2.cpu with credit := 0 } } else s2
  | _ => { s2 with cpu := { s2.cpu with credit := 0 } }.setPhase .cpuCall

/-- The machine with the instruction of the bits `w` (`nbits` of them, the rest 0) where the next step fetches. -/
def State.withFetch (s : State) (nbits w : Nat) : State :=
  let v := w % 2 ^ nbits
  (s.supplyAtPc (BitVec.ofNat 8 v) (BitVec.ofNat 8 (v / 256)) (BitVec.ofNat 8 (v / 65536))).readyToFetch

end Sys2Proof.Machine
end

