-- ==== Sys2Proof/Machine/Step.lean ====
section
/-! DEFINITION. One step of the whole machine: one turn of the loop of the unit whose turn it is (R420), the units in
the Clock's fixed order. -/

namespace Sys2Proof.Machine

/-- One turn of whichever unit the Clock is running (R310, R420): CPU, DMA, PPU, APU, Timer, each to the end of its
call before the next. The call of `CPU.run` and its first turn are one step. -/
def step (s : State) : Host.Outcome State Fault Refusal :=
  match s.clock.phase with
  | .cpuCall => cpuTurn s.enterCpu
  | .cpu => cpuTurn s
  | .mmu credit => dmaTurn credit s
  | .ppu => .next (ppuTurn s)
  | .apu => .next (apuTurn s)
  | .timer left => timerTurn left s

/-- `s` with an instruction stored where the next step fetches (log 13). -/
def State.withFetchWord (s : State) (nbits w : Nat) : State := s.withFetch nbits w

end Sys2Proof.Machine
end

