-- ==== Sys2Proof/Safety.lean ====
section
/-! DEFINITION. What a safe run is: the invariants that every step keeps, the reasons for which the spec lets a run
end, and the words the statements about the machine are written in. -/

namespace Sys2Proof

/-- What the row of field value `y` of the rotate and shift group makes of `v` and the old carry: the result and
the bit that becomes the carry (R291 to R298). -/
def RotOp.result (op : RotOp) (v : Byte) (cin : Bool) : Byte × Bool :=
  match op with
  | .rlc => (v.rotateLeft 1, v.getLsbD 7)
  | .rrc => (v.rotateRight 1, v.getLsbD 0)
  | .rl => (BitVec.ofNat 8 (2 * v.toNat + cin.toNat), v.getLsbD 7)
  | .rr => (BitVec.ofNat 8 (v.toNat / 2 + 128 * cin.toNat), v.getLsbD 0)
  | .sla => (BitVec.ofNat 8 (2 * v.toNat), v.getLsbD 7)
  | .sra => (v.sshiftRight 1, v.getLsbD 0)
  | .swap => (v.rotateLeft 4, false)
  | .srl => (BitVec.ofNat 8 (v.toNat / 2), v.getLsbD 0)

/-- The instructions that make a published store (files 40 to 46): every other form leaves memory alone. -/
def Instr.stores (i : Instr) : Bool :=
  match i with
  | .ld_mhl_b | .ld_mhl_c | .ld_mhl_d | .ld_mhl_e | .ld_mhl_h | .ld_mhl_l | .ld_mhl_a | .ld_mhl_n _ => true
  | .ld_mbc_a | .ld_mde_a | .ld_mnn_a _ | .ldh_mc_a | .ldh_mn_a _ | .ld_mhli_a | .ld_mhld_a => true
  | .ld_mnn_sp _ | .push_bc | .push_de | .push_hl | .push_af => true
  | .inc_mhl | .dec_mhl => true
  | .call_nn _ | .rst_00 | .rst_08 | .rst_10 | .rst_18 | .rst_20 | .rst_28 | .rst_30 | .rst_38 => true
  | .rlc_mhl | .rrc_mhl | .rl_mhl | .rr_mhl | .sla_mhl | .sra_mhl | .swap_mhl | .srl_mhl => true
  | .res_0_mhl | .res_1_mhl | .res_2_mhl | .res_3_mhl | .res_4_mhl | .res_5_mhl | .res_6_mhl | .res_7_mhl => true
  | .set_0_mhl | .set_1_mhl | .set_2_mhl | .set_3_mhl | .set_4_mhl | .set_5_mhl | .set_6_mhl | .set_7_mhl => true
  | _ => false

/-- The instructions whose first Command writes `PC` (45_control.md); the prefix byte fetches on (R138). -/
def Instr.transfers (i : Instr) : Bool :=
  match i with
  | .jp_nn _ | .jp_hl | .jr_e _ | .call_nn _ | .ret | .reti | .prefix_cb => true
  | .rst_00 | .rst_08 | .rst_10 | .rst_18 | .rst_20 | .rst_28 | .rst_30 | .rst_38 => true
  | _ => false

end Sys2Proof

namespace Sys2Proof.Machine

/-! ### Invariants -/

/-- A host operation whose ROM image is in canonical form. -/
def HostAction.canonical : HostAction → Bool
  | .insert _ rom => Memory.wf rom
  | _ => true

/-- Every byte store is in its one canonical form, so that equal memories are equal data. -/
structure State.MemoryInv (s : State) : Prop where
  mem : Memory.wf s.mem = true
  bios : Memory.rising s.bios = true
  cart : ∀ c, s.cart = some c → Memory.wf c.rom = true ∧ Memory.wf c.ram = true
  input : ∀ xs ∈ s.hostInput, ∀ x ∈ xs, x.canonical = true
  shelf : ∀ c ∈ s.shelf, Memory.wf c.rom = true ∧ Memory.wf c.ram = true

/-- The CPU's queue and credit: under the cut of D4 a fetched instruction never waits in the queue (R310, R313, R315);
under the spec's cost table as well the debt is at most 5; the credit is at most one budget, and outside `CPU.run` no
credit is left (R310). -/
structure State.CpuInv (s : State) : Prop where
  queue : s.params.partition = [] → ∀ c, s.cpu.queue = some c → (∀ i, c ≠ .exec i) ∧ ∀ n next, c ≠ .after n next
  debt : s.params.partition = [] → s.params.costs = [] → -5 ≤ s.cpu.credit
  budget : s.cpu.credit ≤ 114
  spent : s.clock.phase ≠ .cpu → s.cpu.credit ≤ 0

/-- A Cartridge that is long enough, with `romLow` never zero (R85, R89). -/
def Cartridge.Inv (c : Cartridge) : Prop := 0x8000 ≤ c.romLength ∧ (c.kind = .mbc1 → c.romLow ≠ 0)

/-- The bank registers of an MBC1 select banks that exist (R92). -/
def Cartridge.BanksExist (c : Cartridge) : Prop :=
  c.kind = .mbc1 → c.romIndex < c.romBanks ∧ c.ramBank.toNat < c.ramBanks

/-- The Cartridge in the slot and those taken out have their invariant; where the parameter `MBC1_BANK_OOR` is `fault`
their banks exist. -/
def State.CartInv (s : State) : Prop :=
  ∀ c, s.cart = some c ∨ c ∈ s.shelf → c.Inv ∧ (s.params.bankOor = .fault → c.BanksExist)

/-- DMA copies only into OAM (R100), the Timer's accumulators stay below their periods (R42), and the slice number
is one of a frame's 154 (R46). -/
structure State.DeviceInv (s : State) : Prop where
  dma : ∀ c ∈ s.dmaQueue, 0xFE00 ≤ c.dst.toNat ∧ c.dst.toNat ≤ 0xFE9F
  divAcc : s.timer.divAcc ≤ 15
  timaAcc : s.timer.timaAcc < 64
  slice : s.clock.slice < 154

/-- The PPU between two of its calls (R351): no credit, the next step starts a line, and the mode is 0 or 1 (R427). -/
def Ppu.BetweenLines (p : Ppu) : Prop :=
  p.credit = 0 ∧ (p.mode = .hBlank ∨ p.mode = .vBlank) ∧
    ((p.nextStep = .oamScan ∧ p.ly.toNat < 144) ∨
      (p.nextStep = .vBlank ∧ 144 ≤ p.ly.toNat ∧ p.ly.toNat ≤ 153))

/-- The PPU inside a call (R350, R351): the credit tells how much of the line's 228 cycles is left. -/
def Ppu.InLine (p : Ppu) : Prop :=
  p.lcdOn = true ∧
    (p.BetweenLines ∨
      (p.credit = 228 ∧ (p.mode = .hBlank ∨ p.mode = .vBlank) ∧
        ((p.nextStep = .oamScan ∧ p.ly.toNat < 144) ∨
          (p.nextStep = .vBlank ∧ 144 ≤ p.ly.toNat ∧ p.ly.toNat ≤ 153))) ∨
      (p.credit = 188 ∧ p.mode = .oamScan ∧ p.nextStep = .pixelTransfer ∧ p.ly.toNat < 144) ∨
      (p.credit = 44 ∧ p.mode = .pixelTransfer ∧ p.nextStep = .hBlank ∧ p.ly.toNat < 144))

/-- The PPU and its registers: where it is in a line (R351); with the LCD off it rests at line 0 in mode 0 (R365);
`lcdOn` is the enable bit of `LCDC` (R43); the low three bits of `STAT` are the PPU's (R353, R364); a set
coincidence flag tells the truth (R362). -/
structure State.PpuInv (s : State) : Prop where
  inside : s.clock.phase = .ppu → s.ppu.InLine
  outside : s.clock.phase ≠ .ppu → s.ppu.BetweenLines
  off : s.ppu.lcdOn = false → s.ppu.ly = 0 ∧ s.ppu.mode = .hBlank
  enable : (s.read 0xFF40).getLsbD 7 = s.ppu.lcdOn
  stat : s.read 0xFF41 &&& 0x07 = s.ppu.statBits
  coincidence : s.ppu.coincidence = true → s.ppu.ly = s.read 0xFF45

/-- All of them. -/
structure State.Inv (s : State) : Prop where
  memory : s.MemoryInv
  cpu : s.CpuInv
  cart : s.CartInv
  device : s.DeviceInv
  ppu : s.PpuInv

/-! ### How a run may end -/

/-- The eleven base bytes without an instruction (R139). -/
def unmappedBytes : List Byte := [0xD3, 0xDB, 0xDD, 0xE3, 0xE4, 0xEB, 0xEC, 0xED, 0xF4, 0xFC, 0xFD]

/-- A step is safe where the machine goes on. -/
def State.SafeStep (s : State) : Prop := ∃ t, step s = .next t

/-- The next step of `s` is a fetch (R310 step 3, R314): in the loop of `CPU.run`, with credit, an empty queue and no
interrupt due. -/
def State.Fetching (s : State) : Prop :=
  s.clock.phase = .cpu ∧ 0 < s.cpu.credit ∧ s.cpu.queue = none ∧ s.interruptDue = false

/-! ### Words for statements -/

/-- `get(z)` (R290), and the operand of a register field (R132). -/
def State.opnd (s : State) : Opnd8 → Byte
  | .reg r => s.reg r
  | .mhl => s.read s.hl

/-- The second operand `s` of the accumulator operations (R210). -/
inductive AluSource where
  | opnd (z : Opnd8)
  | imm (n : Byte)
deriving DecidableEq, Repr

/-- The row of an accumulator operation with this operand. -/
def AluSource.instr (x : AluSource) (op : AluOp) : Instr :=
  match x with
  | .opnd z => .aluForm op z
  | .imm n => .aluImmForm op n

/-- The operand's value (R210). -/
def AluSource.value (x : AluSource) (s : State) : Byte :=
  match x with
  | .opnd z => s.opnd z
  | .imm n => n

/-- The cost of an accumulator operation with this operand (R210). -/
def AluSource.cost : AluSource → Nat
  | .opnd (.reg _) => 1
  | .opnd .mhl => 2
  | .imm _ => 2

/-- Instruction `i` run at `s` makes one published store of `v` at `a` (R71) and then does `after`; where the store
ends the run (R92), so does the instruction. -/
def StoresByte (i : Instr) (s : State) (a : Word) (v : Byte) (after : State → State) : Prop :=
  (s.writeFault a v = none → exec i s = .next (after (s.written a v))) ∧
    ∀ x, s.writeFault a v = some x → exec i s = .fault x

/-- Instruction `i` run at `s` stores the word `w` at `a`, low byte first, each byte a published store (R77), `s'` being
`s` as the first store finds it, and then does `after`. -/
def StoresWord (i : Instr) (s s' : State) (a w : Word) (after : State → State) : Prop :=
  (s'.writeFault a (lo w) = none → (s'.written a (lo w)).writeFault (a + 1) (hi w) = none →
      exec i s = .next (after ((s'.written a (lo w)).written (a + 1) (hi w)))) ∧
    (∀ x, s'.writeFault a (lo w) = some x → exec i s = .fault x) ∧
    ∀ x, s'.writeFault a (lo w) = none → (s'.written a (lo w)).writeFault (a + 1) (hi w) = some x →
      exec i s = .fault x

/-- An address that no MMU subscriber watches (R95) and that is not in the Cartridge's ROM windows (R94): a store
there has no effect but the byte itself. -/
def plainAddress (a : Word) : Bool :=
  decide (0x8000 ≤ a.toNat) &&
    !(a == 0xFF50 || a == 0xFF46 || a == 0xFF04 || a == 0xFF02 || a == 0xFF40 || a == 0xFF41 || a == 0xFF45)

/-- A place whose byte a store can change (R63). -/
def Place.writable : Place → Bool
  | .cartRam _ => true
  | .ram _ => true
  | _ => false

end Sys2Proof.Machine
end

