-- ==== Sys2Proof/Certificates/Slice0/Obligations.lean ====
section
/-! DEFINITION. The statements for the provers. An instruction's statement gives its bytes, and then the state it ends in
from every state: a register or flag the statement does not name has its old value, since the state is written as the
old one with the named fields replaced. `exec` runs at a state whose `PC` is already past the instruction's bytes
(StepRunsTheDecodedInstruction). -/

section
open Sys2Proof Sys2Proof.Machine

/-! ### Encoding -/

/-- Decoding the bytes of a well-formed instruction gives it back, every operand with it, whatever follows. -/
def Obligations.DecodeEncodeRoundTrip : Prop :=
  ∀ (i : Instr) (rest : List Byte), i.wf = true → decode (encode i ++ rest) = .ok (i, rest)

/-- What the decoder reads is well formed and has exactly these bytes, so no two instructions share bytes and no bit is
dropped; any three bytes start an instruction, of two bytes after the prefix (R132, R138); and decoding fails only
where the bytes run out. -/
def Obligations.EncodeDecodeRoundTrip : Prop :=
  (∀ (bs : List Byte) (i : Instr) (rest : List Byte),
    decode bs = .ok (i, rest) → i.wf = true ∧ bs = encode i ++ rest) ∧
  (∀ (b0 b1 b2 : Byte) (rest : List Byte), ∃ i k, 1 ≤ k ∧ k ≤ 3 ∧ (b0 = 0xCB → k = 2) ∧
    decode (b0 :: b1 :: b2 :: rest) = .ok (i, (b0 :: b1 :: b2 :: rest).drop k)) ∧
  ∀ (bs : List Byte) (x : DecodeError), decode bs = .error x → bs.length < 3

/-- Words written out from R132, R137, R142 and R143 decode to the instructions they stand for. -/
def Obligations.SampleWordsDecode : Prop :=
  decode [0x00] = .ok (.nop, []) ∧
  decode [0x78] = .ok (.ld_a_b, []) ∧
  decode [0x3E, 0x05] = .ok (.ld_a_n 0x05, []) ∧
  decode [0x21, 0x00, 0xC1] = .ok (.ld_hl_nn 0xC100, []) ∧
  decode [0xEA, 0x00, 0x20] = .ok (.ld_mnn_a 0x2000, []) ∧
  decode [0x9E] = .ok (.sbc_a_mhl, []) ∧
  decode [0x29] = .ok (.add_hl_hl, []) ∧
  decode [0x76] = .ok (.halt, []) ∧
  decode [0x20, 0xFC] = .ok (.jr_nz_e 0xFC, []) ∧
  decode [0xD4, 0x00, 0x20] = .ok (.call_nc_nn 0x2000, []) ∧
  decode [0xEF] = .ok (.rst_28, []) ∧
  decode [0xCB, 0x15] = .ok (.rl_l, []) ∧
  decode [0xCB, 0x65] = .ok (.bit_4_l, []) ∧
  decode [0xCB, 0xCB] = .ok (.set_1_e, []) ∧
  decode [0xDD] = .ok (.illegal_dd, [])

/-! ### Loads -/

/-- `LD r,r'` (R160), `LD r,n` (R161) and `LD r,(HL)` (R162): the register `r` gets the byte, nothing else but the
credit changes. -/
def Obligations.LoadRegister : Prop :=
  ∀ (s : State) (y : Oct) (r : Reg8), y.opnd = .reg r →
    (∀ (z : Oct) (r' : Reg8), z.opnd = .reg r' →
      encode (.ldForm (.reg r) (.reg r')) = [BitVec.ofNat 8 (0x40 + 8 * y.val + z.val)] ∧
      exec (.ldForm (.reg r) (.reg r')) s = .next ((s.setReg r (s.reg r')).charge 1)) ∧
    (∀ n : Byte,
      encode (.ldImmForm (.reg r) n) = [BitVec.ofNat 8 (0x06 + 8 * y.val), n] ∧
      exec (.ldImmForm (.reg r) n) s = .next ((s.setReg r n).charge 2)) ∧
    encode (.ldForm (.reg r) .mhl) = [BitVec.ofNat 8 (0x46 + 8 * y.val)] ∧
    exec (.ldForm (.reg r) .mhl) s = .next ((s.setReg r (s.read (word s.cpu.h s.cpu.l))).charge 2)

/-- The register file (R20, R21): a register keeps what was last written to it, a write changes no other register
and nothing outside the seven registers; a pair is a view of its halves, the first-named register the high byte. -/
def Obligations.RegisterFile : Prop :=
  ∀ (s : State) (r : Reg8) (v : Byte) (p : Pair) (w : Word),
    (∀ r' : Reg8, (s.setReg r v).reg r' = if r' = r then v else s.reg r') ∧
    (s.setReg r v).setReg r (s.reg r) = s ∧
    (s.setPair p w).pair p = w ∧
    (s.setPair p w).setPair p (s.pair p) = s ∧
    s.pair .bc = BitVec.ofNat 16 (s.cpu.b.toNat * 256 + s.cpu.c.toNat) ∧
    s.pair .de = BitVec.ofNat 16 (s.cpu.d.toNat * 256 + s.cpu.e.toNat) ∧
    s.pair .hl = BitVec.ofNat 16 (s.cpu.h.toNat * 256 + s.cpu.l.toNat)

/-- The loads of `A` from memory (R165, R166, R169, R171, R173, R175, R176): only `A` and the credit change, and `HL`
where the form steps it, after the read and modulo 2^16. -/
def Obligations.LoadAccumulator : Prop :=
  ∀ (s : State) (n : Byte) (nn : Word),
    (encode .ld_a_mbc = [0x0A] ∧ exec .ld_a_mbc s = .next ((s.setReg .a (s.read (s.pair .bc))).charge 2)) ∧
    (encode .ld_a_mde = [0x1A] ∧ exec .ld_a_mde s = .next ((s.setReg .a (s.read (s.pair .de))).charge 2)) ∧
    (encode (.ld_a_mnn nn) = [0xFA, lo nn, hi nn] ∧
      exec (.ld_a_mnn nn) s = .next ((s.setReg .a (s.read nn)).charge 4)) ∧
    (encode .ldh_a_mc = [0xF2] ∧
      exec .ldh_a_mc s = .next ((s.setReg .a (s.read (BitVec.ofNat 16 (0xFF00 + s.cpu.c.toNat)))).charge 2)) ∧
    (encode (.ldh_a_mn n) = [0xF0, n] ∧
      exec (.ldh_a_mn n) s = .next ((s.setReg .a (s.read (BitVec.ofNat 16 (0xFF00 + n.toNat)))).charge 3)) ∧
    (encode .ld_a_mhli = [0x2A] ∧
      exec .ld_a_mhli s = .next (((s.setReg .a (s.read s.hl)).setPair .hl (s.hl + 1)).charge 2)) ∧
    (encode .ld_a_mhld = [0x3A] ∧
      exec .ld_a_mhld s = .next (((s.setReg .a (s.read s.hl)).setPair .hl (s.hl - 1)).charge 2))

/-- Every 8-bit store (R163, R164, R167, R168, R170, R172, R174, R177, R178) is one published store of the named
byte at the named address, followed by the step of `HL` where the form has one; no flag changes. -/
def Obligations.ByteStores : Prop :=
  ∀ (s : State) (n : Byte) (nn : Word),
    (∀ (z : Oct) (r : Reg8), z.opnd = .reg r →
      encode (.ldForm .mhl (.reg r)) = [BitVec.ofNat 8 (0x70 + z.val)] ∧
      StoresByte (.ldForm .mhl (.reg r)) s s.hl (s.reg r) (·.charge 2)) ∧
    (encode (.ld_mhl_n n) = [0x36, n] ∧ StoresByte (.ld_mhl_n n) s s.hl n (·.charge 3)) ∧
    (encode .ld_mbc_a = [0x02] ∧ StoresByte .ld_mbc_a s (s.pair .bc) s.cpu.a (·.charge 2)) ∧
    (encode .ld_mde_a = [0x12] ∧ StoresByte .ld_mde_a s (s.pair .de) s.cpu.a (·.charge 2)) ∧
    (encode (.ld_mnn_a nn) = [0xEA, lo nn, hi nn] ∧ StoresByte (.ld_mnn_a nn) s nn s.cpu.a (·.charge 4)) ∧
    (encode .ldh_mc_a = [0xE2] ∧
      StoresByte .ldh_mc_a s (BitVec.ofNat 16 (0xFF00 + s.cpu.c.toNat)) s.cpu.a (·.charge 2)) ∧
    (encode (.ldh_mn_a n) = [0xE0, n] ∧
      StoresByte (.ldh_mn_a n) s (BitVec.ofNat 16 (0xFF00 + n.toNat)) s.cpu.a (·.charge 3)) ∧
    (encode .ld_mhli_a = [0x22] ∧
      StoresByte .ld_mhli_a s s.hl s.cpu.a (fun t => (t.setPair .hl (s.hl + 1)).charge 2)) ∧
    (encode .ld_mhld_a = [0x32] ∧
      StoresByte .ld_mhld_a s s.hl s.cpu.a (fun t => (t.setPair .hl (s.hl - 1)).charge 2))

/-- `LD rr,nn` (R190), `LD SP,HL` (R192) and `LD HL,SP+e` (R193) with its flags from the unsigned addition of the low
byte of `SP` and the raw byte `e`. `POP qq` (R195) and `POP AF` (R196): the low half from `SP`, the high half from
`SP + 1`, `SP` goes up by 2; of the byte popped into `F` bits 7 to 4 are the flags and the rest is dropped. -/
def Obligations.LoadWordAndPop : Prop :=
  ∀ (s : State) (p : Pair) (nn : Word) (e : Byte),
    let low := s.read s.cpu.sp
    let high := s.read (s.cpu.sp + 1)
    (∃ k : Nat, k < 4 ∧ (p = .bc ↔ k = 0) ∧ (p = .de ↔ k = 1) ∧ (p = .hl ↔ k = 2) ∧ (p = .sp ↔ k = 3) ∧
      encode (.ldPairForm p nn) = [BitVec.ofNat 8 (0x01 + 16 * k), lo nn, hi nn]) ∧
    exec (.ldPairForm p nn) s = .next ((s.setPair p nn).charge 3) ∧
    (encode .ld_sp_hl = [0xF9] ∧ exec .ld_sp_hl s = .next ((s.setSp (s.pair .hl)).charge 2)) ∧
    (encode (.ld_hl_sp_e e) = [0xF8, e] ∧
      exec (.ld_hl_sp_e e) s = .next (((s.setPair .hl (BitVec.ofInt 16 (s.cpu.sp.toNat + e.toInt))).setFlags
        { z := false, n := false,
          h := decide (s.cpu.sp.toNat % 16 + e.toNat % 16 > 0x0F),
          c := decide (s.cpu.sp.toNat % 256 + e.toNat > 0xFF) }).charge 3)) ∧
    (encode .pop_bc = [0xC1] ∧ exec .pop_bc s = .next { s with cpu := { s.cpu with
      b := high, c := low, sp := s.cpu.sp + 2, credit := s.cpu.credit - 3 } }) ∧
    (encode .pop_de = [0xD1] ∧ exec .pop_de s = .next { s with cpu := { s.cpu with
      d := high, e := low, sp := s.cpu.sp + 2, credit := s.cpu.credit - 3 } }) ∧
    (encode .pop_hl = [0xE1] ∧ exec .pop_hl s = .next { s with cpu := { s.cpu with
      h := high, l := low, sp := s.cpu.sp + 2, credit := s.cpu.credit - 3 } }) ∧
    (encode .pop_af = [0xF1] ∧ exec .pop_af s = .next { s with cpu := { s.cpu with
      a := high,
      f := { z := low.getLsbD 7, n := low.getLsbD 6, h := low.getLsbD 5, c := low.getLsbD 4 },
      sp := s.cpu.sp + 2, credit := s.cpu.credit - 3 } })

/-- `LD (nn),SP` (R191) and `PUSH qq` (R194): two published stores, the low half first, at `nn` or at the decreased
`SP`; of `AF` the low half is the flags byte, `Z N H C` in bits 7 to 4 (R22). The order of the two bytes is the spec's
own decision D10. -/
def Obligations.WordStores : Prop :=
  ∀ (s : State) (nn : Word) (q : StackPair),
    let f := s.cpu.f
    let value : Word := match q with
      | .bc => word s.cpu.b s.cpu.c
      | .de => word s.cpu.d s.cpu.e
      | .hl => word s.cpu.h s.cpu.l
      | .af => BitVec.ofNat 16 (256 * s.cpu.a.toNat + 128 * f.z.toNat + 64 * f.n.toNat + 32 * f.h.toNat +
          16 * f.c.toNat)
    encode (.ld_mnn_sp nn) = [0x08, lo nn, hi nn] ∧
    StoresWord (.ld_mnn_sp nn) s s nn s.cpu.sp (·.charge 5) ∧
    (∃ k : Nat, k < 4 ∧ (q = .bc ↔ k = 0) ∧ (q = .de ↔ k = 1) ∧ (q = .hl ↔ k = 2) ∧ (q = .af ↔ k = 3) ∧
      encode (.pushForm q) = [BitVec.ofNat 8 (0xC5 + 16 * k)]) ∧
    StoresWord (.pushForm q) s (s.setSp (s.cpu.sp - 2)) (s.cpu.sp - 2) value (·.charge 4)

/-! ### 8-bit arithmetic and logic -/

/-- `ADD` and `ADC` (R210, R211, R213, R214): the exact sum, narrowed; `H` and `C` from the nibble and the byte sum,
the carry-in of `ADC` included. Only `A`, the flags and the credit change. -/
def Obligations.AddWithCarry : Prop :=
  ∀ (s : State) (x : AluSource) (withCarry : Bool) (z : Oct) (n : Byte),
    let op : AluOp := if withCarry then .adc else .add
    let k : Nat := if withCarry then 1 else 0
    let a := s.cpu.a.toNat
    let b := (x.value s).toNat
    let cin := if withCarry = true ∧ s.cpu.f.c = true then 1 else 0
    encode ((AluSource.opnd z.opnd).instr op) = [BitVec.ofNat 8 (0x80 + 8 * k + z.val)] ∧
    encode ((AluSource.imm n).instr op) = [BitVec.ofNat 8 (0xC6 + 8 * k), n] ∧
    exec (x.instr op) s = .next { s with cpu := { s.cpu with
      a := BitVec.ofNat 8 (a + b + cin),
      f := { z := decide ((a + b + cin) % 256 = 0), n := false,
             h := decide (a % 16 + b % 16 + cin > 0x0F), c := decide (a + b + cin > 0xFF) },
      credit := s.cpu.credit - x.cost } }

/-- `SUB`, `SBC` and `CP` (R210, R212, R215, R216, R220): the exact difference; `H` and `C` are the borrows, the
borrow-in of `SBC` included; `CP` keeps only the flags. -/
def Obligations.SubtractWithBorrow : Prop :=
  ∀ (s : State) (x : AluSource) (withCarry : Bool) (z : Oct) (n : Byte),
    let op : AluOp := if withCarry then .sbc else .sub
    let k : Nat := if withCarry then 3 else 2
    let a := s.cpu.a.toNat
    let b := (x.value s).toNat
    let bin : Nat := if withCarry = true ∧ s.cpu.f.c = true then 1 else 0
    let f : Nat → Flags := fun m =>
      { z := decide (((a : Int) - b - m) % 256 = 0), n := true,
        h := decide (a % 16 < b % 16 + m), c := decide (a < b + m) }
    encode ((AluSource.opnd z.opnd).instr op) = [BitVec.ofNat 8 (0x80 + 8 * k + z.val)] ∧
    encode ((AluSource.imm n).instr op) = [BitVec.ofNat 8 (0xC6 + 8 * k), n] ∧
    exec (x.instr op) s = .next { s with cpu := { s.cpu with
      a := BitVec.ofInt 8 ((a : Int) - b - bin), f := f bin, credit := s.cpu.credit - x.cost } } ∧
    encode ((AluSource.opnd z.opnd).instr .cp) = [BitVec.ofNat 8 (0xB8 + z.val)] ∧
    encode ((AluSource.imm n).instr .cp) = [0xFE, n] ∧
    exec (x.instr .cp) s = .next { s with cpu := { s.cpu with f := f 0, credit := s.cpu.credit - x.cost } }

/-- `AND`, `XOR` and `OR` (R210, R217, R218, R219): bit by bit; `Z` tells a zero result, `N = C = 0`, and `H` is 1 for
`AND` and 0 for the other two. -/
def Obligations.BitwiseLogic : Prop :=
  ∀ (s : State) (x : AluSource) (op : AluOp) (r : Byte) (z : Oct) (n : Byte),
    let k : Nat := if op = .and then 4 else if op = .xor then 5 else 6
    op = .and ∨ op = .xor ∨ op = .or →
    (∀ j : Nat, r.getLsbD j =
      (match op with
        | .and => s.cpu.a.getLsbD j && (x.value s).getLsbD j
        | .xor => s.cpu.a.getLsbD j != (x.value s).getLsbD j
        | _ => s.cpu.a.getLsbD j || (x.value s).getLsbD j)) →
    encode ((AluSource.opnd z.opnd).instr op) = [BitVec.ofNat 8 (0x80 + 8 * k + z.val)] ∧
    encode ((AluSource.imm n).instr op) = [BitVec.ofNat 8 (0xC6 + 8 * k), n] ∧
    exec (x.instr op) s = .next { s with cpu := { s.cpu with
      a := r, f := { z := decide (r = 0), n := false, h := decide (op = .and), c := false },
      credit := s.cpu.credit - x.cost } }

/-- `INC` and `DEC` of a byte (R221 to R224): modulo 256, with `Z`, `N` and `H` from the old value; `C` keeps its value.
With `(HL)` it is one read, then one published store at the same address, then the flags. -/
def Obligations.IncrementByte : Prop :=
  ∀ (s : State) (y : Oct),
    let old := (s.opnd y.opnd).toNat
    let up : Byte := BitVec.ofNat 8 (old + 1)
    let down : Byte := BitVec.ofInt 8 ((old : Int) - 1)
    let fUp : Flags := { z := decide (old = 0xFF), n := false, h := decide (old % 16 = 0x0F), c := s.cpu.f.c }
    let fDown : Flags := { z := decide (old = 1), n := true, h := decide (old % 16 = 0), c := s.cpu.f.c }
    encode (.incForm y.opnd) = [BitVec.ofNat 8 (0x04 + 8 * y.val)] ∧
    encode (.decForm y.opnd) = [BitVec.ofNat 8 (0x05 + 8 * y.val)] ∧
    (∀ r : Reg8, y.opnd = .reg r →
      exec (.incForm (.reg r)) s = .next (((s.setReg r up).setFlags fUp).charge 1) ∧
      exec (.decForm (.reg r)) s = .next (((s.setReg r down).setFlags fDown).charge 1)) ∧
    (y.opnd = .mhl →
      StoresByte (.incForm .mhl) s s.hl up (fun t => (t.setFlags fUp).charge 3) ∧
      StoresByte (.decForm .mhl) s s.hl down (fun t => (t.setFlags fDown).charge 3))

/-! ### 16-bit arithmetic -/

/-- `ADD HL,rr` (R240): `Z` keeps its value, `H` is the carry out of bit 11 and `C` that out of bit 15. `INC rr` and
`DEC rr` (R241, R242): modulo 2^16, and no flag changes. `ADD SP,e` (R243): the signed sum modulo 2^16, with the flags
of the unsigned addition of the low bytes. -/
def Obligations.WordArithmetic : Prop :=
  ∀ (s : State) (p : Pair) (e : Byte),
    let a := (s.pair .hl).toNat
    let b := (s.pair p).toNat
    (∃ k : Nat, k < 4 ∧ (p = .bc ↔ k = 0) ∧ (p = .de ↔ k = 1) ∧ (p = .hl ↔ k = 2) ∧ (p = .sp ↔ k = 3) ∧
      encode (.addHlForm p) = [BitVec.ofNat 8 (0x09 + 16 * k)] ∧
      encode (.incPairForm p) = [BitVec.ofNat 8 (0x03 + 16 * k)] ∧
      encode (.decPairForm p) = [BitVec.ofNat 8 (0x0B + 16 * k)]) ∧
    exec (.addHlForm p) s = .next (((s.setPair .hl (BitVec.ofNat 16 (a + b))).setFlags
      { z := s.cpu.f.z, n := false, h := decide (a % 4096 + b % 4096 > 0x0FFF),
        c := decide (a + b > 0xFFFF) }).charge 2) ∧
    exec (.incPairForm p) s = .next ((s.setPair p (BitVec.ofNat 16 (b + 1))).charge 2) ∧
    exec (.decPairForm p) s = .next ((s.setPair p (BitVec.ofInt 16 ((b : Int) - 1))).charge 2) ∧
    encode (.add_sp_e e) = [0xE8, e] ∧
    exec (.add_sp_e e) s = .next { s with cpu := { s.cpu with
      sp := BitVec.ofInt 16 (s.cpu.sp.toNat + e.toInt),
      f := { z := false, n := false, h := decide (s.cpu.sp.toNat % 16 + e.toNat % 16 > 0x0F),
             c := decide (s.cpu.sp.toNat % 256 + e.toNat > 0xFF) },
      credit := s.cpu.credit - 4 } }

/-! ### Accumulator rotates, decimal and flag operations, CPU control -/

/-- `RLCA`, `RRCA`, `RLA` and `RRA` (R250 to R253): the rotates of the 0xCB page on `A`, but with `Z` always 0. -/
def Obligations.AccumulatorRotates : Prop :=
  ∀ s : State,
    let after : RotOp → State := fun op => { s with cpu := { s.cpu with
      a := (op.result s.cpu.a s.cpu.f.c).1,
      f := { z := false, n := false, h := false, c := (op.result s.cpu.a s.cpu.f.c).2 },
      credit := s.cpu.credit - 1 } }
    (encode .rlca = [0x07] ∧ exec .rlca s = .next (after .rlc)) ∧
    (encode .rrca = [0x0F] ∧ exec .rrca s = .next (after .rrc)) ∧
    (encode .rla = [0x17] ∧ exec .rla s = .next (after .rl)) ∧
    (encode .rra = [0x1F] ∧ exec .rra s = .next (after .rr))

/-- `DAA` (R254): after an addition 6 where `H` is set or the low digit is above 9, 0x60 where `C` is set or `A` is
above 0x99, both tests on the old `A`; after a subtraction by the flags alone; `C` is never cleared. -/
def Obligations.DecimalAdjust : Prop :=
  ∀ s : State,
    let a := s.cpu.a.toNat
    let f := s.cpu.f
    let low : Nat := if f.h = true ∨ (f.n = false ∧ a % 16 > 9) then 6 else 0
    let high : Nat := if f.c = true ∨ (f.n = false ∧ a > 0x99) then 0x60 else 0
    let r : Byte := if f.n = true then BitVec.ofInt 8 ((a : Int) - (low : Nat) - (high : Nat)) else BitVec.ofNat 8 (a + low + high)
    encode .daa = [0x27] ∧
    exec .daa s = .next { s with cpu := { s.cpu with
      a := r, f := { z := decide (r = 0), n := f.n, h := false, c := decide (high = 0x60) },
      credit := s.cpu.credit - 1 } }

/-- `CPL`, `SCF`, `CCF` (R255, R256, R257), `NOP` (R258), and `DI` (R261), which acts at once. -/
def Obligations.FlagAndControlOperations : Prop :=
  ∀ s : State,
    (encode .cpl = [0x2F] ∧ exec .cpl s = .next { s with cpu := { s.cpu with
      a := BitVec.ofNat 8 (0xFF - s.cpu.a.toNat),
      f := { z := s.cpu.f.z, n := true, h := true, c := s.cpu.f.c }, credit := s.cpu.credit - 1 } }) ∧
    (encode .scf = [0x37] ∧ exec .scf s = .next { s with cpu := { s.cpu with
      f := { z := s.cpu.f.z, n := false, h := false, c := true }, credit := s.cpu.credit - 1 } }) ∧
    (encode .ccf = [0x3F] ∧ exec .ccf s = .next { s with cpu := { s.cpu with
      f := { z := s.cpu.f.z, n := false, h := false, c := !s.cpu.f.c }, credit := s.cpu.credit - 1 } }) ∧
    (encode .nop = [0x00] ∧
      exec .nop s = .next { s with cpu := { s.cpu with credit := s.cpu.credit - 1 } }) ∧
    (encode .di = [0xF3] ∧
      exec .di s = .next { s with cpu := { s.cpu with ime := false, credit := s.cpu.credit - 1 } })

/-- `EI` (R262) acts at once: where an enabled interrupt is pending, the turn after it is the entry and not the fetch of
the next instruction. That there is no delay is the spec's own decision D7. -/
def Obligations.EnableInterrupts : Prop :=
  ∀ s : State,
    let t : State := { s with cpu := { s.cpu with ime := true, credit := s.cpu.credit - 1 } }
    encode .ei = [0xFB] ∧ exec .ei s = .next t ∧
    ∀ i : Nat, i < 5 → s.clock.phase = .cpu → s.cpu.queue = none → 1 < s.cpu.credit →
      (s.read 0xFFFF &&& s.read 0xFF0F).getLsbD i = true →
      (∀ j : Nat, j < i → (s.read 0xFFFF &&& s.read 0xFF0F).getLsbD j = false) →
      step t = t.takeInterrupt i

/-- `HALT` (R259): a Command of cost 1 that stays in the queue while no enabled interrupt is pending, whatever `IME`
is; so does each later turn of the wait. What ends the wait is the spec's own decision D8. -/
def Obligations.HaltWaits : Prop :=
  ∀ s : State, s.cpu.queue = none →
    let pending := s.read 0xFFFF &&& s.read 0xFF0F &&& 0x1F
    let after : State := { s with cpu := { s.cpu with
      queue := if pending ≠ 0 then none else some .haltWait, credit := s.cpu.credit - 1 } }
    encode .halt = [0x76] ∧ exec .halt s = .next after ∧ runCommand .haltWait s = .next after

/-- A wait that finds nothing pending uses up the credit of the whole `CPU.run` call, one M-cycle a turn (so the spec's
table and every one that keeps that row), and leaves it at exactly 0 with every other part of the machine as it was
(R259, R370). R259 marks this as its own inference, from D8. -/
def Obligations.HaltUsesUpTheCredit : Prop :=
  ∀ (s : State) (n : Nat), s.clock.phase = .cpu → s.cpu.queue = some .haltWait → s.pending = 0 →
    s.firstCost .halt = 1 → s.cpu.credit = n →
    Host.Core.run Sys2Proof.core n s = .next { s with cpu := { s.cpu with credit := 0 } }

/-- `STOP` by the parameter (R260): it ends the run, is a two-byte `NOP`, or waits for `IF` bit 4. That the first test
is made in `STOP`'s own Command is the model's choice (log 6). What `STOP` does is left open, with `refuse` the default (D9). -/
def Obligations.StopByParameter : Prop :=
  ∀ (s : State) (n : Byte), s.cpu.queue = none →
    let waiting : State := { s with cpu := { s.cpu with
      queue := if (s.read 0xFF0F).getLsbD 4 = true then none else some .stopWait, credit := s.cpu.credit - 1 } }
    encode (.stop n) = [0x10, n] ∧
    (s.params.stop = .refuse → exec (.stop n) s = .fault (.instructionNotImplemented 0x10)) ∧
    (s.params.stop = .nop2 → exec (.stop n) s = .next (s.charge 1)) ∧
    (s.params.stop = .waitJoypad → exec (.stop n) s = .next waiting) ∧
    runCommand .stopWait s = .next waiting

/-! ### Control transfers -/

/-- `JP nn`, `JP HL`, `JR e` (R271, R273, R274), the displacement signed and added to the address of the next
instruction modulo 2^16; `CALL nn` and `RST t` (R276, R281), which push that address, low byte first; `RET` and
`RETI` (R278, R280), of which the second sets `IME` at once. No flag changes. -/
def Obligations.UnconditionalTransfers : Prop :=
  ∀ (s : State) (nn : Word) (e : Byte) (t : Oct),
    let target := word (s.read (s.cpu.sp + 1)) (s.read s.cpu.sp)
    (encode (.jp_nn nn) = [0xC3, lo nn, hi nn] ∧ exec (.jp_nn nn) s = .next ((s.setPc nn).charge 4)) ∧
    (encode .jp_hl = [0xE9] ∧ exec .jp_hl s = .next ((s.setPc (s.pair .hl)).charge 1)) ∧
    (encode (.jr_e e) = [0x18, e] ∧
      exec (.jr_e e) s = .next ((s.setPc (BitVec.ofInt 16 (s.cpu.pc.toNat + e.toInt))).charge 3)) ∧
    (encode (.call_nn nn) = [0xCD, lo nn, hi nn] ∧
      StoresWord (.call_nn nn) s (s.setSp (s.cpu.sp - 2)) (s.cpu.sp - 2) s.cpu.pc
        (fun u => (u.setPc nn).charge 6)) ∧
    (encode (.rstForm t) = [BitVec.ofNat 8 (0xC7 + 8 * t.val)] ∧
      StoresWord (.rstForm t) s (s.setSp (s.cpu.sp - 2)) (s.cpu.sp - 2) s.cpu.pc
        (fun u => (u.setPc (BitVec.ofNat 16 (8 * t.val))).charge 4)) ∧
    (encode .ret = [0xC9] ∧ exec .ret s = .next { s with cpu := { s.cpu with
      pc := target, sp := s.cpu.sp + 2, credit := s.cpu.credit - 4 } }) ∧
    (encode .reti = [0xD9] ∧ exec .reti s = .next { s with cpu := { s.cpu with
      pc := target, sp := s.cpu.sp + 2, ime := true, credit := s.cpu.credit - 4 } })

/-- The conditional transfers (R270, R272, R275, R277, R279): the first Command has the not-taken cost and only where
the condition holds puts the transfer into the queue; that second Command does what the unconditional transfer does,
at the rest of the cost. The cut into two Commands is the spec's own decision D4; a finer `STEP_PARTITION` puts its
micro-ops before the second one (`State.cut`, EveryInstructionPaysItsCost). -/
def Obligations.ConditionalTransfers : Prop :=
  ∀ (s : State) (cc : Cond) (nn : Word) (e : Byte),
    let holds : Bool := match cc with
      | .nz => !s.cpu.f.z
      | .z => s.cpu.f.z
      | .nc => !s.cpu.f.c
      | .c => s.cpu.f.c
    let k : Nat := match cc with
      | .nz => 0
      | .z => 1
      | .nc => 2
      | .c => 3
    let after : Command → Nat → State := fun q cost => { s with cpu := { s.cpu with
      queue := if holds then some (s.cut q) else none, credit := s.cpu.credit - cost } }
    (s.cpu.queue = none →
      (encode (.jpCondForm cc nn) = [BitVec.ofNat 8 (0xC2 + 8 * k), lo nn, hi nn] ∧
        exec (.jpCondForm cc nn) s = .next (after (.jumpTo cc nn) 3)) ∧
      (encode (.jrCondForm cc e) = [BitVec.ofNat 8 (0x20 + 8 * k), e] ∧
        exec (.jrCondForm cc e) s = .next (after (.jumpBy cc e) 2)) ∧
      (encode (.callCondForm cc nn) = [BitVec.ofNat 8 (0xC4 + 8 * k), lo nn, hi nn] ∧
        exec (.callCondForm cc nn) s = .next (after (.callTo cc nn) 3)) ∧
      (encode (.retCondForm cc) = [BitVec.ofNat 8 (0xC0 + 8 * k)] ∧
        exec (.retCondForm cc) s = .next (after (.ret cc) 2))) ∧
    runCommand (.jumpTo cc nn) s = .next ((s.setPc nn).charge 1) ∧
    runCommand (.jumpBy cc e) s = .next ((s.setPc (BitVec.ofInt 16 (s.cpu.pc.toNat + e.toInt))).charge 1) ∧
    runCommand (.ret cc) s = .next { s with cpu := { s.cpu with
      pc := word (s.read (s.cpu.sp + 1)) (s.read s.cpu.sp), sp := s.cpu.sp + 2, credit := s.cpu.credit - 3 } } ∧
    (let p := s.setSp (s.cpu.sp - 2)
     let u := p.written (s.cpu.sp - 2) (lo s.cpu.pc)
     p.writeFault (s.cpu.sp - 2) (lo s.cpu.pc) = none → u.writeFault (s.cpu.sp - 1) (hi s.cpu.pc) = none →
      runCommand (.callTo cc nn) s = .next (((u.written (s.cpu.sp - 1) (hi s.cpu.pc)).setPc nn).charge 3))

/-! ### The 0xCB page -/

/-- The rotates and shifts (R290 to R298): register and `(HL)` operand, `Z` from the result, `N = H = 0`, `C` the bit
shifted out. -/
def Obligations.RotatesAndShifts : Prop :=
  ∀ (s : State) (y z : Oct),
    let r := y.rot.result (s.opnd z.opnd) s.cpu.f.c
    let f : Flags := { z := decide (r.1 = 0), n := false, h := false, c := r.2 }
    encode (.rotForm y.rot z.opnd) = [0xCB, BitVec.ofNat 8 (8 * y.val + z.val)] ∧
    (∀ q : Reg8, z.opnd = .reg q →
      exec (.rotForm y.rot (.reg q)) s = .next (((s.setReg q r.1).setFlags f).charge 2)) ∧
    (z.opnd = .mhl → StoresByte (.rotForm y.rot .mhl) s s.hl r.1 (fun t => (t.setFlags f).charge 4))

/-- The prefix byte as a row of its own (R138, R314): the second byte is fetched, and its Command becomes the only
element of the queue, cut as the machine cuts it, at no cost. The fetch of `step` reads both bytes as one instruction, so that no step runs this
row; its meaning is the model's reading of the fetch step (log 8). -/
def Obligations.PrefixByteQueuesTheCommand : Prop :=
  ∀ s : State, ∃ i : Instr, i.wf = true ∧ encode i = [0xCB, s.read s.cpu.pc] ∧
    exec .prefix_cb s = .next { s with cpu := { s.cpu with pc := s.cpu.pc + 1, queue := some (s.cut (.exec i)) } } ∧
    ∀ t : State, runCommand (.exec i) t = exec i t

/-- `BIT b` (R299): `Z` is the complement of the tested bit, `N = 0`, `H = 1`, `C` keeps its value, and nothing is
written back. `RES b` and `SET b` (R300, R301): that one bit of the operand, no other bit and no flag; with `(HL)`
the byte is stored back even where it did not change. -/
def Obligations.BitOperations : Prop :=
  ∀ (s : State) (y z : Oct) (on : Bool) (v : Byte),
    (encode (.bitForm y z.opnd) = [0xCB, BitVec.ofNat 8 (0x40 + 8 * y.val + z.val)] ∧
      exec (.bitForm y z.opnd) s = .next { s with cpu := { s.cpu with
        f := { z := decide ((s.opnd z.opnd).toNat / 2 ^ y.val % 2 = 0), n := false, h := true, c := s.cpu.f.c },
        credit := s.cpu.credit - if z.opnd = .mhl then 3 else 2 } }) ∧
    ((∀ k : Nat, k < 8 → v.getLsbD k = if k = y.val then on else (s.opnd z.opnd).getLsbD k) →
      encode (if on then Instr.setForm y z.opnd else .resForm y z.opnd) =
        [0xCB, BitVec.ofNat 8 ((if on then 0xC0 else 0x80) + 8 * y.val + z.val)] ∧
      (∀ q : Reg8, z.opnd = .reg q →
        exec (if on then Instr.setForm y (.reg q) else .resForm y (.reg q)) s = .next ((s.setReg q v).charge 2)) ∧
      (z.opnd = .mhl →
        StoresByte (if on then Instr.setForm y .mhl else .resForm y .mhl) s s.hl v (·.charge 4)))

/-! ### What every instruction keeps -/

/-- Every instruction's meaning pays its cost of the opcode table, the not-taken cost in the case of a conditional
transfer (R311, R313, R432). Both the table and the cut into Commands are parameters: a row of `costs` replaces the
spec's costs of its opcode, a row of `partition` puts micro-ops before the Command with the action, and a Command
that runs pays exactly what its row leaves for it. That the parameters have this form is the model's reading (log 7);
the default cut is decision D4. -/
def Obligations.EveryInstructionPaysItsCost : Prop :=
  (∀ (i : Instr) (s t : State), exec i s = .next t → t.cpu.credit = s.cpu.credit - i.cost) ∧
  (∀ (s t : State) (c : Command), runCommand c (s.settle c) = .next t →
    t.cpu.credit = s.cpu.credit - s.commandCost c) ∧
  (∀ s : State, s.params.costs = [] → ∀ i : Instr, s.firstCost i = i.cost ∧ s.takenCost i = i.takenExtra) ∧
  (∀ (s : State) (before after : List Config.CostRow) (r : Config.CostRow) (i : Instr),
    s.params.costs = before ++ r :: after →
    (∀ q ∈ before, (q.prefixed, q.opcode) ≠ (r.prefixed, r.opcode)) →
    (if r.prefixed = true then encode i = [0xCB, r.opcode]
      else r.opcode ≠ 0xCB ∧ (encode i).head? = some r.opcode) →
    s.firstCost i = r.cost ∧ s.takenCost i = r.takenExtra) ∧
  (∀ s : State, s.params.partition = [] → ∀ c : Command, s.lead c = [] ∧ s.cut c = c) ∧
  (∀ (s : State) (before after : List Config.CutRow) (r : Config.CutRow) (i : Instr),
    s.params.partition = before ++ r :: after → i.cost ≠ 0 →
    (∀ q ∈ before, (q.prefixed, q.opcode) ≠ (r.prefixed, r.opcode)) →
    (if r.prefixed = true then encode i = [0xCB, r.opcode]
      else r.opcode ≠ 0xCB ∧ (encode i).head? = some r.opcode) →
    s.cut (.exec i) = r.lead.foldr .after (.exec i) ∧
    (r.lead.sum ≤ s.firstCost i → r.lead.sum + s.commandCost (.exec i) = s.firstCost i))

/-- An instruction that stores nothing changes the CPU alone: every byte of memory, every device and every cartridge
register is as before. And while any instruction runs, storing ones included, the devices stand still (R315, R427): no
step of the PPU or the Timer is made, nothing is drawn, and the clock, the parameters, the BIOS and the host's input
are as before. R315 and R427 are marked as the spec's own inferences. -/
def Obligations.OnlyStoresTouchTheMachine : Prop :=
  ∀ (i : Instr) (s t : State), exec i s = .next t →
    (i.stores = false → t = { s with cpu := t.cpu }) ∧
    t.clock = s.clock ∧ t.params = s.params ∧ t.bios = s.bios ∧ t.hostInput = s.hostInput ∧
    t.mbcReports = s.mbcReports ∧ t.shelf = s.shelf ∧ t.apuRuns = s.apuRuns ∧ t.timer.timaAcc = s.timer.timaAcc ∧
    t.ppu.bitmap = s.ppu.bitmap ∧ t.ppu.framesReady = s.ppu.framesReady

/-- `PC` stays past the instruction's bytes unless the instruction transfers control (R25); `IME` is set by `EI` and
`RETI` and cleared by `DI`, and no other instruction touches it (R26); and the flags change only by the forms whose
rules have a flags line (R23): the accumulator operations, `INC` and `DEC` of a byte, `ADD HL`, the two `SP + e`
forms, `POP AF`, the accumulator and flag operations, and the rotates, shifts and `BIT` of the 0xCB page. That `EI`
acts at once is decision D7. -/
def Obligations.WhoChangesWhat : Prop :=
  ∀ (i : Instr) (s t : State), exec i s = .next t →
    (i.transfers = false → t.cpu.pc = s.cpu.pc) ∧
    (t.cpu.ime = if i = .ei ∨ i = .reti then true else if i = .di then false else s.cpu.ime) ∧
    (t.cpu.f ≠ s.cpu.f →
      (∃ x op, i = AluSource.instr x op) ∨ (∃ z, i = .incForm z ∨ i = .decForm z) ∨ (∃ p, i = .addHlForm p) ∨
      (∃ e, i = .add_sp_e e ∨ i = .ld_hl_sp_e e) ∨ i = .pop_af ∨
      i ∈ [Instr.rlca, .rrca, .rla, .rra, .daa, .cpl, .scf, .ccf] ∨
      (∃ op z, i = .rotForm op z) ∨ ∃ b z, i = .bitForm b z)

/-! ### The run loop and interrupts -/

/-- When the bytes at `PC` decode to an instruction and the next step is a fetch, the step is, under the spec's cost
table and cut, that instruction's `exec` at the state with `PC` past its bytes; under another table the difference of
the costs is settled as well, and under a finer cut the first micro-op runs and the rest is queued. A step that
begins a `CPU.run` call first adds the budget of 114. That the operand bytes are read together with the opcode is the
model's reading of D43 (log 9), the form of the two parameters too (log 7). -/
def Obligations.StepRunsTheDecodedInstruction : Prop :=
  ∀ (s : State) (i : Instr) (rest : List Byte),
    (s.Fetching →
      decode [s.read s.cpu.pc, s.read (s.cpu.pc + 1), s.read (s.cpu.pc + 2)] = .ok (i, rest) →
      let past : Word := s.cpu.pc + BitVec.ofNat 16 (encode i).length
      (s.params.costs = [] → s.params.partition = [] →
        step s = exec i { s with cpu := { s.cpu with pc := past } }) ∧
      (s.lead (.exec i) = [] → step s = exec i { s with cpu := { s.cpu with
        pc := past, credit := s.cpu.credit + i.cost - s.firstCost i } }) ∧
      ∀ (n : Nat) (l : List Nat), s.lead (.exec i) = n :: l → step s = .next { s with cpu := { s.cpu with
        pc := past, queue := some (l.foldr .after (.exec i)), credit := s.cpu.credit - n } }) ∧
    (s.clock.phase = .cpuCall →
      step s = step { s with cpu := { s.cpu with credit := s.cpu.credit + 114 },
                             clock := { s.clock with phase := .cpu } })

/-- One turn of the loop of `CPU.run` (R310, R312, R320, R321, R334): without credit the call ends; a queued Command
runs before anything else; with an empty queue an interrupt is taken exactly where `IME` is set and an enabled bit
among 0 to 4 is pending, and then the lowest such bit; else the turn is a fetch. The carried credit and the five bits
are the spec's own decisions D3 and D6, R334 its own inference. That the difference between the spec's cost of a
Command and the machine's is settled before it runs, and that a micro-op `after n c` does nothing but charge `n` and
queue `c`, is the model's form of the cost table and of `STEP_PARTITION` (log 7). -/
def Obligations.RunLoop : Prop :=
  ∀ s : State, s.clock.phase = .cpu →
    let due : Nat → Bool := fun i => decide (i < 5) && (s.read 0xFFFF).getLsbD i && (s.read 0xFF0F).getLsbD i
    (s.cpu.credit ≤ 0 → step s = .next { s with clock := { s.clock with phase := .mmu 114 } }) ∧
    (∀ c : Command, 0 < s.cpu.credit → s.cpu.queue = some c →
      step s = runCommand c { s with cpu := { s.cpu with
        queue := none, credit := s.cpu.credit + c.cost - s.commandCost c } }) ∧
    (∀ c : Command, s.params.costs = [] → s.params.partition = [] → s.commandCost c = c.cost) ∧
    (∀ (i : Instr) (n : Nat) (c : Command), runCommand (.exec i) s = exec i s ∧
      runCommand (.after n c) s = .next { s with cpu := { s.cpu with
        queue := some c, credit := s.cpu.credit - n } }) ∧
    (∀ i : Nat, 0 < s.cpu.credit → s.cpu.queue = none → s.cpu.ime = true → due i = true →
      (∀ j : Nat, j < i → due j = false) → step s = s.takeInterrupt i) ∧
    (0 < s.cpu.credit → s.cpu.queue = none → (s.cpu.ime = false ∨ ∀ i : Nat, due i = false) →
      step s = fetchTurn s)

/-- Interrupt entry (R322, R323): `PC` is pushed low byte first, bit `i` of `IF` is cleared and no other bit of it,
`IME` is cleared, `PC` is the vector `0x0040 + 8 * i`, 5 M-cycles are charged, and no other register changes. That the
entry is one turn is decision D5, the order of the pushed bytes D10. -/
def Obligations.InterruptEntry : Prop :=
  ∀ (s : State) (i : Nat), i < 5 →
    let a := s.cpu.sp - 2
    let u := s.written a (lo s.cpu.pc)
    let w := u.written (s.cpu.sp - 1) (hi s.cpu.pc)
    s.writeFault a (lo s.cpu.pc) = none → u.writeFault (s.cpu.sp - 1) (hi s.cpu.pc) = none →
      s.takeInterrupt i = .next { w.written 0xFF0F (w.read 0xFF0F &&& ~~~(BitVec.ofNat 8 (2 ^ i))) with
        cpu := { s.cpu with sp := a, ime := false, pc := BitVec.ofNat 16 (0x0040 + 8 * i),
                            credit := s.cpu.credit - 5 } }

/-- The rows of the eleven unmapped bytes stop with `InstructionNotFound` of that byte (R139, R331), a fetch stops so
exactly on those bytes, and never with `extended` set. Which bytes are unmapped is decision D41. -/
def Obligations.UnmappedBytesAreFatal : Prop :=
  (∀ s : State,
    exec .illegal_d3 s = .fault (.instructionNotFound 0xD3 false) ∧
    exec .illegal_db s = .fault (.instructionNotFound 0xDB false) ∧
    exec .illegal_dd s = .fault (.instructionNotFound 0xDD false) ∧
    exec .illegal_e3 s = .fault (.instructionNotFound 0xE3 false) ∧
    exec .illegal_e4 s = .fault (.instructionNotFound 0xE4 false) ∧
    exec .illegal_eb s = .fault (.instructionNotFound 0xEB false) ∧
    exec .illegal_ec s = .fault (.instructionNotFound 0xEC false) ∧
    exec .illegal_ed s = .fault (.instructionNotFound 0xED false) ∧
    exec .illegal_f4 s = .fault (.instructionNotFound 0xF4 false) ∧
    exec .illegal_fc s = .fault (.instructionNotFound 0xFC false) ∧
    exec .illegal_fd s = .fault (.instructionNotFound 0xFD false)) ∧
  (∀ s : State, s.Fetching →
    ((∃ b : Byte, step s = .fault (.instructionNotFound b false)) ↔ s.read s.cpu.pc ∈ unmappedBytes) ∧
    (s.read s.cpu.pc ∈ unmappedBytes → step s = .fault (.instructionNotFound (s.read s.cpu.pc) false))) ∧
  ∀ (s : State) (b : Byte), step s ≠ .fault (.instructionNotFound b true)

/-- The four ways a run can end (R330, R333, R92, V17): an unmapped byte, `STOP` under `refuse`, an MBC1 bank that
does not exist (where `MBC1_BANK_OOR` is `fault`), with no byte of the Cartridge changed, and a ROM image that is
refused. Above all, no access is ever out of range (R72); and a published
store ends the run only where it sets an MBC1 bank index beyond the last bank. The bank fault and the refused images
are decision D35 (log 10), R72 is an inference of the spec. -/
def Obligations.HowARunEnds : Prop :=
  (∀ (s : State) (a : Word), step s ≠ .fault (.addressOutOfRange a)) ∧
  (∀ (s : State) (x : Fault), step s = .fault x →
    (∃ b : Byte, b ∈ unmappedBytes ∧ x = .instructionNotFound b false) ∨
    (s.params.stop = .refuse ∧ x = .instructionNotImplemented 0x10) ∨
    (s.params.bankOor = .fault ∧ ∃ c d : Cartridge, s.cart = some c ∧ c.kind = .mbc1 ∧
      d = { c with ramEnable := d.ramEnable, romLow := d.romLow, hi2 := d.hi2, ramBank := d.ramBank, mode := d.mode } ∧
      x = .bankOutOfRange d)) ∧
  (∀ (s : State) (r : Refusal), step s = .refused r →
    s.clock.phase = .timer 0 ∧ ∃ len : Nat, r = .cartridgeRefused len) ∧
  ∀ (s : State) (a : Word) (v : Byte) (x : Fault), s.writeFault a v = some x ↔
    s.params.bankOor = .fault ∧ ∃ c : Cartridge, s.cart = some c ∧ c.kind = .mbc1 ∧ 0x2000 ≤ a.toNat ∧ a.toNat ≤ 0x7FFF ∧
      ((c.select a.toNat v).romBanks ≤ (c.select a.toNat v).romIndex ∨
        (c.select a.toNat v).ramBanks ≤ (c.select a.toNat v).ramBank.toNat) ∧
      x = .bankOutOfRange (c.select a.toNat v)

/-! ### The bus -/

/-- A store at an address that no subscriber watches (R62, R63, R66, R71), or below 0x8000 where no MBC listens: every
address that shows the stored byte's place reads the byte, unless the block is read-only or disabled, every other
address reads as before, and the one byte of storage that the address names is all of the machine that changes, the
banks and blocks that are not shown at that moment included. The index rule of a block is decision D13. -/
def Obligations.PlainStore : Prop :=
  ∀ (s : State) (a : Word) (v : Byte), s.MemoryInv →
    (plainAddress a = true ∨ (a.toNat ≤ 0x7FFF ∧ ∀ c : Cartridge, s.cart = some c → c.kind = .inert)) →
    (∀ b : Word, (s.written a v).read b =
      if s.place b = s.place a ∧ (s.place a).writable = true then v else s.read b) ∧
    s.written a v = match s.place a with
      | .ram k =>
        if 0xFF10 ≤ k ∧ k ≤ 0xFF3F then { s with sound := s.sound.setIfInBounds (k - 0xFF10) v }
        else { s with mem := Memory.write s.mem k v }
      | .cartRam i => { s with cart := s.cart.map fun c => { c with ram := Memory.write c.ram i v } }
      | _ => s

/-- Where an address leads (R80 to R84, R86, R87): the BIOS while it is mapped, then the Cartridge's windows, the echo
onto the 4 KB of work RAM, and every other address its own byte. An MBC0 shows its ROM and its 8 KB of RAM as they
are; an MBC1 shows ROM bank 0 below 0x4000 and hardware bank `hi2 * 32 + romLow` above it, and in the RAM window bank
`ramBank` of four, or its one bank of 8 KB, or one of 2 KB four times over. A bank beyond the last, which is never
set under the default of `MBC1_BANK_OOR`, counts modulo the number of banks (PRESUMED, log 23). So reads of work RAM and echo agree and stores have
the same effect (R82), and 0xD000 to 0xDFFF is mirrored nowhere. The index rule and the catch-all are decisions D13
and D14, R82 an inference of the spec. -/
def Obligations.AddressMap : Prop :=
  (∀ (s : State) (a : Word),
    (s.biosMapped = true → a.toNat ≤ 0xFF → s.place a = .bios a.toNat) ∧
    (∀ c : Cartridge, s.cart = some c → c.kind ≠ .inert → ¬ (s.biosMapped = true ∧ a.toNat ≤ 0xFF) →
      (a.toNat ≤ 0x7FFF → s.place a = .rom (c.romOffset a.toNat)) ∧
      (0xA000 ≤ a.toNat → a.toNat ≤ 0xBFFF →
        s.place a = if c.ramEnabled = true then .cartRam (c.ramOffset a.toNat) else .disabled) ∧
      (c.kind = .mbc0 →
        (a.toNat ≤ 0x7FFF → s.place a = .rom a.toNat) ∧
        (0xA000 ≤ a.toNat → a.toNat ≤ 0xBFFF → s.place a = .cartRam (a.toNat - 0xA000))) ∧
      (c.kind = .mbc1 →
        (a.toNat ≤ 0x3FFF → s.place a = .rom a.toNat) ∧
        (0x4000 ≤ a.toNat → a.toNat ≤ 0x7FFF → c.romLow ≠ 0 →
          let bank := c.hi2.toNat * 32 + c.romLow.toNat
          let banks := c.romLength / 0x4000
          s.place a = .rom ((if bank < banks then bank else bank % banks) * 0x4000 + (a.toNat - 0x4000))) ∧
        (0xA000 ≤ a.toNat → a.toNat ≤ 0xBFFF →
          let size := Memory.read c.rom 0x0149
          s.place a = if c.ramEnable = false then .disabled else .cartRam
            (if size = 3 then c.ramBank.toNat * 0x2000 + (a.toNat - 0xA000)
              else if size = 2 then a.toNat - 0xA000 else (a.toNat - 0xA000) % 0x0800)))) ∧
    (0x8000 ≤ a.toNat → (a.toNat < 0xA000 ∨ 0xBFFF < a.toNat ∨ s.cart = none) →
      s.place a = .ram (if 0xE000 ≤ a.toNat ∧ a.toNat ≤ 0xFDFF
        then 0xC000 + (a.toNat - 0xE000) % 0x1000 else a.toNat)) ∧
    ((∀ c : Cartridge, s.cart = some c → c.kind = .inert) →
      ¬ (s.biosMapped = true ∧ a.toNat ≤ 0xFF) → a.toNat ≤ 0xBFFF → s.place a = .ram a.toNat)) ∧
  (∀ (s : State) (k : Nat) (v : Byte), k < 0x1E00 →
    s.read (BitVec.ofNat 16 (0xE000 + k)) = s.read (BitVec.ofNat 16 (0xC000 + k % 0x1000)) ∧
    s.written (BitVec.ofNat 16 (0xE000 + k)) v = s.written (BitVec.ofNat 16 (0xC000 + k % 0x1000)) v) ∧
  ∀ (s : State) (a b : Word), 0xD000 ≤ a.toNat → a.toNat ≤ 0xDFFF → s.place b = s.place a → b = a

/-- A word written to plain, writable memory is read back, low byte at the lower address (R76, R77, R79). The wrap is
decision D10, R79 an inference of the spec. -/
def Obligations.WordRoundTrip : Prop :=
  ∀ (s : State) (a w : Word), s.MemoryInv → plainAddress a = true → plainAddress (a + 1) = true →
    (s.place a).writable = true → (s.place (a + 1)).writable = true →
    ∃ t : State, s.writeWord a w = .next t ∧ t.readWord a = w ∧
      t.read a = BitVec.ofNat 8 (w.toNat % 256) ∧ t.read (a + 1) = BitVec.ofNat 8 (w.toNat / 256)

/-- A store into the ROM range (R81, R86, R88 to R91, R94): the BIOS shields the Cartridge, an MBC0 ignores it, and an
MBC1 sets the one register of that window; no byte of memory changes. The switchable window then shows hardware bank
`hi2 * 32 + romLow`, so that writing 0 selects bank 1, and the window below it always bank 0 (R87, R92). A bank beyond
the last, where `MBC1_BANK_OOR` lets it be set, counts modulo the number of banks (PRESUMED, log 23). The two upper
registers and the mode are decision D35. -/
def Obligations.CartridgeRegisters : Prop :=
  (∀ (s : State) (a : Word) (v : Byte) (c : Cartridge), s.cart = some c → a.toNat ≤ 0x7FFF →
    (s.biosMapped = true → a.toNat ≤ 0xFF → s.written a v = s) ∧
    (c.kind = .mbc0 → s.written a v = s) ∧
    (c.kind = .mbc1 → ¬ (s.biosMapped = true ∧ a.toNat ≤ 0xFF) →
      (a.toNat ≤ 0x1FFF → s.written a v =
        { s with cart := some { c with ramEnable := decide (v &&& 0x0F = 0x0A) } }) ∧
      (0x2000 ≤ a.toNat → a.toNat ≤ 0x3FFF → s.written a v =
        { s with cart := some { c with romLow := BitVec.ofNat 5 (if v.toNat % 32 = 0 then 1 else v.toNat % 32) } }) ∧
      (0x4000 ≤ a.toNat → a.toNat ≤ 0x5FFF → c.mode = false → s.written a v =
        { s with cart := some { c with hi2 := BitVec.ofNat 2 (v.toNat % 4) } }) ∧
      (0x4000 ≤ a.toNat → a.toNat ≤ 0x5FFF → c.mode = true → s.written a v =
        { s with cart := some { c with ramBank := BitVec.ofNat 2 (v.toNat % 4) } }) ∧
      (0x6000 ≤ a.toNat → s.written a v =
        { s with cart := some { c with mode := decide (v.toNat % 2 = 1) } }))) ∧
  ∀ (s : State) (c : Cartridge) (v : Byte) (k : Nat), s.cart = some c → c.kind = .mbc1 → k < 0x4000 →
    (let bank := c.hi2.toNat * 32 + if v.toNat % 32 = 0 then 1 else v.toNat % 32
     let banks := c.romLength / 0x4000
     (s.written 0x2000 v).read (BitVec.ofNat 16 (0x4000 + k)) =
      Memory.read c.rom ((if bank < banks then bank else bank % banks) * 0x4000 + k)) ∧
    (0x100 ≤ k → (s.written 0x2000 v).read (BitVec.ofNat 16 k) = Memory.read c.rom k)

/-- The BIOS-disable register (R96): a non-zero byte unmaps the BIOS, zero does nothing more than its store; once
unmapped, 0x0000 to 0x00FF shows the Cartridge's ROM, or with none the catch-all; and no step maps the BIOS again
but one whose frame boundary has the host insert a cartridge. That last clause rests on R103, R422 and R425 and on
conflict C7; that the host's operations are a list in the state, one entry for each frame boundary, is the model's
choice (log 16), and so is that `reinsert` resets with an empty slot too (log 25). -/
def Obligations.BiosDisable : Prop :=
  ∀ (s : State) (v : Byte),
    s.written 0xFF50 v = { s with mem := Memory.write s.mem 0xFF50 v,
                                  biosMapped := if v = 0 then s.biosMapped else false } ∧
    (∀ (c : Cartridge) (a : Word), v ≠ 0 → s.cart = some c → c.kind ≠ .inert → a.toNat ≤ 0xFF →
      (s.written 0xFF50 v).read a = Memory.read c.rom a.toNat) ∧
    (∀ a : Word, v ≠ 0 → s.cart = none → a.toNat ≤ 0xFF → (s.written 0xFF50 v).place a = .ram a.toNat) ∧
    ∀ t : State, s.biosMapped = false → step s = .next t →
      t.biosMapped = false ∨
      (s.clock.phase = .timer 0 ∧ (s.clock.slice + 1) % 154 = 0 ∧
        ∃ (xs : List HostAction) (rest : List (List HostAction)), s.hostInput = xs :: rest ∧
          ∃ x ∈ xs, x = .reinsert ∨ (∃ k : Nat, x = .putBack k) ∨
            ∃ (len : Nat) (rom : List Host.Cell), x = .insert len rom)

/-! ### The subscribers -/

/-- A store to `DIV` clears it and the divider's accumulator, whatever is written (R340). A store to `STAT` (R364)
sets bits 7 to 3 as written and leaves bits 2 to 0 the PPU's; it requests no interrupt. Nothing else changes. What
stays untouched is decision D19, the restored bits are D25 and D26. -/
def Obligations.DividerAndStatWrites : Prop :=
  ∀ (s : State) (v : Byte), s.MemoryInv →
    (let t := s.written 0xFF04 v
     t.read 0xFF04 = 0 ∧ (∀ b : Word, b ≠ 0xFF04 → t.read b = s.read b) ∧
     t = { s with mem := t.mem, timer := { s.timer with divAcc := 0 } }) ∧
    (let t := s.written 0xFF41 v
     (∀ k : Nat, 3 ≤ k → (t.read 0xFF41).getLsbD k = v.getLsbD k) ∧
     (t.read 0xFF41).getLsbD 2 = s.ppu.coincidence ∧
     (t.read 0xFF41).toNat % 4 = s.ppu.mode.toBits.toNat ∧
     (∀ b : Word, b ≠ 0xFF41 → t.read b = s.read b) ∧ t = { s with mem := t.mem })

/-- A store to `LYC` (R362, R363): the coincidence flag is `ly == LYC`, in the PPU and in `STAT` bit 2, and LCD-STAT
is requested where it is set and `STAT` bit 6 is; every other byte keeps its value. That the PPU's own `ly` is
compared is decision D25. -/
def Obligations.LycWrite : Prop :=
  ∀ (s : State) (v : Byte), s.MemoryInv →
    let t := s.written 0xFF45 v
    t.read 0xFF45 = v ∧ t.ppu = { s.ppu with coincidence := decide (s.ppu.ly = v) } ∧
    (∀ k : Nat, (t.read 0xFF41).getLsbD k =
      if k = 2 then decide (s.ppu.ly = v) else (s.read 0xFF41).getLsbD k) ∧
    (∀ k : Nat, (t.read 0xFF0F).getLsbD k =
      ((s.read 0xFF0F).getLsbD k ||
        (decide (k = 1) && decide (s.ppu.ly = v) && (s.read 0xFF41).getLsbD 6))) ∧
    (∀ b : Word, b ≠ 0xFF45 → b ≠ 0xFF41 → b ≠ 0xFF0F → t.read b = s.read b) ∧
    t = { s with mem := t.mem, ppu := t.ppu }

/-- A store to `LCDC` (R365): switching off rests the PPU at line 0 in mode 0 and recomputes the coincidence, which can
request LCD-STAT (R362), switching on restarts it at `OamScan`, anything else only stores the byte. All of it is
decision D24; that the Bitmap keeps the lines not redrawn meanwhile is the model's choice (log 22). -/
def Obligations.LcdEnable : Prop :=
  ∀ (s : State) (v : Byte), s.MemoryInv →
    let t := s.written 0xFF40 v
    t.read 0xFF40 = v ∧ t.ppu.lcdOn = v.getLsbD 7 ∧
    (s.ppu.lcdOn = true → v.getLsbD 7 = false →
      t.ppu = { s.ppu with lcdOn := false, credit := 0, nextStep := .oamScan, ly := 0, mode := .hBlank,
                           coincidence := decide (s.read 0xFF45 = 0) } ∧
      t.read 0xFF44 = 0 ∧ (t.read 0xFF41).toNat % 4 = 0 ∧
      (t.read 0xFF41).getLsbD 2 = decide (s.read 0xFF45 = 0) ∧
      (∀ k : Nat, 3 ≤ k → (t.read 0xFF41).getLsbD k = (s.read 0xFF41).getLsbD k) ∧
      (∀ k : Nat, (t.read 0xFF0F).getLsbD k = ((s.read 0xFF0F).getLsbD k ||
        (decide (k = 1) && decide (s.read 0xFF45 = 0) && (s.read 0xFF41).getLsbD 6))) ∧
      (∀ b : Word, b ≠ 0xFF40 → b ≠ 0xFF41 → b ≠ 0xFF44 → b ≠ 0xFF0F → t.read b = s.read b)) ∧
    (s.ppu.lcdOn = false → v.getLsbD 7 = true →
      t.ppu = { s.ppu with lcdOn := true, credit := 0, nextStep := .oamScan } ∧
      ∀ b : Word, b ≠ 0xFF40 → t.read b = s.read b) ∧
    (s.ppu.lcdOn = v.getLsbD 7 → t.ppu = s.ppu ∧ ∀ b : Word, b ≠ 0xFF40 → t.read b = s.read b) ∧
    t = { s with mem := t.mem, ppu := t.ppu }

/-- A store to the DMA register (R97): the byte stays there and 160 copies from `B << 8` to OAM are appended, in
order. The serial debug output (R368): exactly 0x81 at 0xFF02 emits the byte of 0xFF01; nothing else happens but the
store. Appending is decision D16, that nothing is transferred D31. -/
def Obligations.DmaAndSerialWrites : Prop :=
  ∀ (s : State) (v : Byte),
    (∃ l : List DmaCopy, l.length = 160 ∧
      (∀ i : Nat, i < 160 → l[i]? = some { src := BitVec.ofNat 16 (v.toNat * 256 + i),
                                           dst := BitVec.ofNat 16 (0xFE00 + i) }) ∧
      s.written 0xFF46 v = { s with mem := Memory.write s.mem 0xFF46 v, dmaQueue := s.dmaQueue ++ l }) ∧
    s.written 0xFF02 v = { s with
      mem := Memory.write s.mem 0xFF02 v
      debugOut := if v = 0x81 then s.debugOut ++ [s.read 0xFF01] else s.debugOut }

/-! ### The devices -/

/-- One turn of `MMU.run` (R100, R101): one byte is copied, read when the Command runs; with an empty queue or no
credit left the call ends and the rest of the credit is dropped. The CPU is not touched (R102). The credit's ends are
decision D17. -/
def Obligations.DmaCopiesOneByte : Prop :=
  ∀ (s : State) (n : Nat), s.clock.phase = .mmu n →
    (∀ (c : DmaCopy) (rest : List DmaCopy), 0 < n → s.dmaQueue = c :: rest →
      0xFE00 ≤ c.dst.toNat → c.dst.toNat ≤ 0xFE9F →
      step s = .next { s with
        dmaQueue := rest
        mem := Memory.write s.mem c.dst.toNat (s.read c.src)
        clock := { s.clock with phase := .mmu (n - 1) } }) ∧
    ((n = 0 ∨ s.dmaQueue = []) → step s = .next { s with
      ppu := { s.ppu with credit := if s.ppu.lcdOn = true then s.ppu.credit + 228 else 0 }
      clock := { s.clock with phase := if s.ppu.lcdOn = true then Phase.ppu else Phase.apu } })

/-- One timer unit (R341 to R344): `DIV` counts every 16 units, `TIMA` every 64, 1, 4 or 16 while enabled; on overflow
it reloads from `TMA` and requests the Timer interrupt in the same unit. No other byte changes. The accumulators are
decision D19, the unit of the periods conflict C1. -/
def Obligations.TimerCounts : Prop :=
  ∀ (s : State) (n : Nat), s.MemoryInv → s.clock.phase = .timer (n + 1) → ∃ t : State, step s = .next t ∧
    t = { s with mem := t.mem, timer := t.timer, clock := { s.clock with phase := .timer n } } ∧
    (let tac := (s.read 0xFF07).toNat
     let period : Nat := if tac % 4 = 0 then 64 else if tac % 4 = 1 then 1 else if tac % 4 = 2 then 4 else 16
     let divTick := decide (16 ≤ s.timer.divAcc + 1)
     let enabled := decide (tac / 4 % 2 = 1)
     let tick := enabled && decide (period ≤ s.timer.timaAcc + 1)
     let overflow := tick && decide (s.read 0xFF05 = 0xFF)
     t.timer.divAcc = (if divTick then 0 else s.timer.divAcc + 1) ∧
     t.read 0xFF04 = (if divTick then BitVec.ofNat 8 ((s.read 0xFF04).toNat + 1) else s.read 0xFF04) ∧
     t.timer.timaAcc = (if tick then 0 else if enabled then s.timer.timaAcc + 1 else s.timer.timaAcc) ∧
     t.read 0xFF05 = (if overflow then s.read 0xFF06
       else if tick then BitVec.ofNat 8 ((s.read 0xFF05).toNat + 1) else s.read 0xFF05) ∧
     t.read 0xFF0F = (if overflow then s.read 0xFF0F ||| 0x04 else s.read 0xFF0F) ∧
     ∀ b : Word, b ≠ 0xFF04 → b ≠ 0xFF05 → b ≠ 0xFF0F → t.read b = s.read b)

/-- The PPU's steps `OamScan` and `PixelTransfer` (R353 to R356): modes 2 and 3, 40 and 144 cycles; only the first can
request LCD-STAT, and the second draws line `ly` pixel by pixel. The layout, the loop and the moment of reading are
decisions D22, D23 and D44; the colours are a free value (log 3). -/
def Obligations.PpuDrawsALine : Prop :=
  ∀ s : State, s.MemoryInv → s.clock.phase = .ppu → 0 < s.ppu.credit →
    (s.ppu.nextStep = .oamScan → ∃ t : State, step s = .next t ∧
      t = { s with mem := t.mem, ppu := { s.ppu with
        mode := .oamScan, nextStep := .pixelTransfer, credit := s.ppu.credit - 40 } } ∧
      t.read 0xFF0F = (if (s.read 0xFF41).getLsbD 5 = true then s.read 0xFF0F ||| 0x02 else s.read 0xFF0F) ∧
      t.read 0xFF41 = (s.read 0xFF41 &&& 0xF8) ||| t.ppu.statBits ∧
      ∀ b : Word, b ≠ 0xFF41 → b ≠ 0xFF0F → t.read b = s.read b) ∧
    (s.ppu.nextStep = .pixelTransfer → s.ppu.ly.toNat < 144 → ∃ t : State, step s = .next t ∧
      t = { s with mem := t.mem, ppu := { s.ppu with
        mode := .pixelTransfer, nextStep := .hBlank, credit := s.ppu.credit - 144, bitmap := t.ppu.bitmap } } ∧
      t.read 0xFF41 = (s.read 0xFF41 &&& 0xF8) ||| t.ppu.statBits ∧
      (∀ b : Word, b ≠ 0xFF41 → t.read b = s.read b) ∧
      ∀ x y : Nat, x < 160 → y < 144 →
        t.rgba x y = if y = s.ppu.ly.toNat
          then Config.shadeRgba (BitVec.ofNat 2 ((s.setMode .pixelTransfer).pixel x y)) else s.rgba x y)

/-- The PPU's step `HBlank` (R357, R362): mode 0, 44 cycles, then `ly` and `LY` go to the next line and the
coincidence is recomputed; after line 143 comes V-Blank. The loop is decision D23, the requests D25 and D26. -/
def Obligations.PpuHBlank : Prop :=
  ∀ s : State, s.MemoryInv → s.clock.phase = .ppu → 0 < s.ppu.credit → s.ppu.nextStep = .hBlank →
    s.ppu.ly.toNat < 144 → ∃ t : State, step s = .next t ∧
    (let next := s.ppu.ly + 1
     let co := decide (next = s.read 0xFF45)
     t = { s with mem := t.mem, ppu := { s.ppu with
        ly := next, mode := .hBlank, coincidence := co, credit := s.ppu.credit - 44,
        nextStep := if next = 144 then .vBlank else .oamScan } } ∧
     t.read 0xFF44 = next ∧ t.read 0xFF41 = (s.read 0xFF41 &&& 0xF8) ||| t.ppu.statBits ∧
     t.read 0xFF0F = (if (s.read 0xFF41).getLsbD 3 = true ∨ (co = true ∧ (s.read 0xFF41).getLsbD 6 = true)
       then s.read 0xFF0F ||| 0x02 else s.read 0xFF0F) ∧
     ∀ b : Word, b ≠ 0xFF44 → b ≠ 0xFF41 → b ≠ 0xFF0F → t.read b = s.read b)

/-- The PPU's step `VBlank` (R358, R362, R366): on entry at line 144 mode 1, the V-Blank request and `frameReady`,
once a frame; every line costs 228 cycles, and after line 153 comes line 0. The loop is decision D23, the frame signal
D38. -/
def Obligations.PpuVBlank : Prop :=
  ∀ s : State, s.MemoryInv → s.clock.phase = .ppu → 0 < s.ppu.credit → s.ppu.nextStep = .vBlank →
    ∃ t : State, step s = .next t ∧
    (let entry := decide (s.ppu.ly = 144)
     let next : Byte := if s.ppu.ly = 153 then 0 else s.ppu.ly + 1
     let co := decide (next = s.read 0xFF45)
     t = { s with mem := t.mem, ppu := { s.ppu with
        ly := next, mode := if entry then .vBlank else s.ppu.mode, coincidence := co,
        credit := s.ppu.credit - 228, nextStep := if next = 0 then .oamScan else .vBlank,
        framesReady := s.ppu.framesReady + if entry then 1 else 0 } } ∧
     t.read 0xFF44 = next ∧
     (t.read 0xFF0F).getLsbD 0 = (entry || (s.read 0xFF0F).getLsbD 0) ∧
     (t.read 0xFF0F).getLsbD 1 = ((entry && (s.read 0xFF41).getLsbD 4) ||
       (co && (s.read 0xFF41).getLsbD 6) || (s.read 0xFF0F).getLsbD 1) ∧
     (∀ k : Nat, 2 ≤ k → (t.read 0xFF0F).getLsbD k = (s.read 0xFF0F).getLsbD k) ∧
     (∀ k : Nat, 2 ≤ k → (t.read 0xFF41).getLsbD k = if k = 2 then co else (s.read 0xFF41).getLsbD k) ∧
     (t.read 0xFF41).toNat % 4 = (if entry then 1 else (s.read 0xFF41).toNat % 4) ∧
     ∀ b : Word, b ≠ 0xFF44 → b ≠ 0xFF41 → b ≠ 0xFF0F → t.read b = s.read b)

/-- One call of `PPU.run` makes exactly one line (R351): from 228 cycles at the start of a visible line three steps,
from a V-Blank line one, end the call with no credit left, one line further. R351 is marked as the spec's own
inference. -/
def Obligations.OneLinePerCall : Prop :=
  ∀ s : State, s.clock.phase = .ppu → s.ppu.credit = 228 →
    (s.ppu.nextStep = .oamScan → s.ppu.ly.toNat < 144 → ∃ t : State,
      Host.Core.run Sys2Proof.core 4 s = .next t ∧ t.clock.phase = .apu ∧ t.ppu.credit = 0 ∧
      t.ppu.ly = s.ppu.ly + 1 ∧ t.ppu.mode = .hBlank ∧
      t.ppu.nextStep = (if s.ppu.ly = 143 then .vBlank else .oamScan) ∧ t.cpu = s.cpu) ∧
    (s.ppu.nextStep = .vBlank → ∃ t : State,
      Host.Core.run Sys2Proof.core 2 s = .next t ∧ t.clock.phase = .apu ∧ t.ppu.credit = 0 ∧
      t.ppu.ly = (if s.ppu.ly = 153 then 0 else s.ppu.ly + 1) ∧
      t.ppu.nextStep = (if s.ppu.ly = 153 ∨ s.ppu.ly = 255 then .oamScan else .vBlank) ∧ t.cpu = s.cpu)

/-- The objects of a line (R359, R361): the first ten that overlap the line, in OAM order; and among those that cover
a column the first one that is not transparent there decides, even where it then loses to the background. The choice
is decision D28. -/
def Obligations.ObjectPriority : Prop :=
  ∀ (s : State) (x ly bgci shade : Nat),
    (let overlaps : Nat → Prop := fun i =>
       (s.oamByte i 0).toNat ≤ ly + 16 ∧ ly + 16 < (s.oamByte i 0).toNat + s.objHeight
     (s.selected ly).length ≤ 10 ∧ (s.selected ly).Pairwise (· < ·) ∧
     (∀ i ∈ s.selected ly, i < 40 ∧ overlaps i) ∧
     ∀ i : Nat, i < 40 → overlaps i → i ∉ s.selected ly →
       (s.selected ly).length = 10 ∧ ∀ j ∈ s.selected ly, j < i) ∧
    (∀ l : List Nat, (∀ i ∈ l, s.objColour x ly i = 0) → s.objectShade x ly bgci shade l = shade) ∧
    ∀ (front : List Nat) (i : Nat) (back : List Nat), (∀ j ∈ front, s.objColour x ly j = 0) →
      s.objColour x ly i ≠ 0 →
      s.objectShade x ly bgci shade (front ++ i :: back) =
        if (s.oamByte i 3).getLsbD 7 = true ∧ bgci ≠ 0 then shade
        else (if (s.oamByte i 3).getLsbD 4 = true then s.read 0xFF49 else s.read 0xFF48).toNat /
          4 ^ s.objColour x ly i % 4

/-- The APU (R371): its call leaves every byte but 0xFF10 to 0xFF3F, the CPU, the PPU, the Timer and the DMA queue as
they were. What it writes there is a free value (log 4). The relation is decision D30. -/
def Obligations.ApuIsConfined : Prop :=
  ∀ s : State, s.clock.phase = .apu → ∃ t : State, step s = .next t ∧
    (∀ a : Word, ¬ (0xFF10 ≤ a.toNat ∧ a.toNat ≤ 0xFF3F) → t.read a = s.read a) ∧
    t = { s with sound := t.sound, apuRuns := s.apuRuns + 1,
                 clock := { s.clock with phase := .timer s.timerBudget } }

/-- The order of the units within a slice (R420): CPU, DMA, PPU, APU, Timer, each to the end of its call, the Timer
with the budget its parameter gives this slice (R421). The slices count modulo 154, and only between two frames does
the host act (R422, R425). That its operations are a list in the state, of which one entry is used up and performed in
order at each frame boundary, is the model's form of `HOST_INPUT` (log 16). The order is decision D39, the budgets
D18; that the lists of budgets begin again with every frame is the model's choice (log 5). -/
def Obligations.OrderOfTheUnits : Prop :=
  (∀ s t : State, step s = .next t →
    match s.clock.phase with
    | .cpuCall => t.clock.phase = .cpu ∨ t.clock.phase = .mmu 114
    | .cpu => t.clock.phase = .cpu ∨ t.clock.phase = .mmu 114
    | .mmu n => (0 < n ∧ t.clock.phase = .mmu (n - 1)) ∨ (t.clock.phase = .ppu ∧ s.ppu.lcdOn = true) ∨
        (t.clock.phase = .apu ∧ s.ppu.lcdOn = false)
    | .ppu => t.clock.phase = .ppu ∨ t.clock.phase = .apu
    | .apu => t.clock.phase =
        .timer (s.params.timerBudgets.getD (s.clock.slice % s.params.timerBudgets.length) 28)
    | .timer 0 => t.clock.phase = .cpuCall
    | .timer (n + 1) => t.clock.phase = .timer n) ∧
  (∀ s t : State, step s = .next t →
    let frameEnds := s.clock.phase = .timer 0 ∧ (s.clock.slice + 1) % 154 = 0
    t.clock.slice = (if s.clock.phase = .timer 0 then (s.clock.slice + 1) % 154 else s.clock.slice) ∧
    t.hostInput = if frameEnds then s.hostInput.tail else s.hostInput) ∧
  ∀ s : State, s.clock.phase = .timer 0 →
    let next : Clock := { phase := .cpuCall, slice := (s.clock.slice + 1) % 154 }
    step s = if next.slice = 0
      then hostActions (s.hostInput.headD []) { s with clock := next, hostInput := s.hostInput.tail }
      else .next { s with clock := next }

/-! ### Reset and the host -/

/-- The state right after reset (R50, R402): every register, flag and credit zero, the queues empty, the BIOS mapped
and no Cartridge, every byte 0x00 but for the BIOS, whose bytes are a free value (log 2). That power-on is the reset
state is decision D11. -/
def Obligations.ResetState : Prop :=
  let s := State.reset
  (∀ r : Reg8, s.reg r = 0) ∧ s.cpu.f = { z := false, n := false, h := false, c := false } ∧
  s.cpu.sp = 0 ∧ s.cpu.pc = 0 ∧ s.cpu.ime = false ∧ s.cpu.queue = none ∧ s.cpu.credit = 0 ∧
  s.biosMapped = true ∧ s.cart = none ∧ s.dmaQueue = [] ∧ s.timer.divAcc = 0 ∧ s.timer.timaAcc = 0 ∧
  s.ppu.ly = 0 ∧ s.ppu.mode = .hBlank ∧ s.ppu.coincidence = false ∧ s.ppu.lcdOn = false ∧ s.ppu.credit = 0 ∧
  s.ppu.nextStep = .oamScan ∧
  ∀ a : Word, s.read a = if a.toNat ≤ 0xFF then Config.biosByte a.toNat else 0

/-- The host's operations (R425), in order. Inserting a Cartridge (R85, R93, R103, R104, R400, R401): a ROM image of at
least 32 KB, for MBC1 a multiple of 16 KB, becomes the Cartridge, and the machine is reset: the BIOS is mapped again
and every byte outside BIOS and Cartridge is 0x00. A shorter one is refused, an unsupported MBC type reported. The
preconditions and the registers' values are decision D35. That a reset keeps the count of frames given out is the
model's choice (log 12), and so is a Bitmap of shade 0 until the first frame (log 3). Inserting again the Cartridge in
the slot, or one that was taken out before, keeps its ROM, RAM and registers (R401), also as the way out of a fatal
error (R330, R400), where the Cartridge is as the error left it; that those taken out are a list in the state is the
model's form (log 24), and that inserting again with an empty slot between frames resets the machine without a
Cartridge is its choice (log 25). The joypad operations change one byte (R369, D31) and end no error. -/
def Obligations.InsertCartridge : Prop :=
  ∀ s : State,
    let fresh : State → Prop := fun t =>
      t.cpu = State.reset.cpu ∧ t.biosMapped = true ∧ t.dmaQueue = [] ∧ t.timer = State.reset.timer ∧
      t.clock = State.reset.clock ∧ t.ppu = { State.reset.ppu with framesReady := s.ppu.framesReady } ∧
      (∀ a : Word, a.toNat ≤ 0xFF → t.read a = Memory.biosRead s.bios a.toNat) ∧
      ∀ (a : Word) (k : Nat), t.place a = .ram k → t.read a = 0
    (∀ (len : Nat) (rom : List Host.Cell),
      let type := (Memory.read rom 0x0147).toNat
      let good := decide (0x8000 ≤ len) && (decide (type = 0 ∨ 3 < type) || decide (len % 0x4000 = 0))
      (good = false → hostAction (.insert len rom) s = .refused (.cartridgeRefused len)) ∧
      (good = true → ∃ t : State, hostAction (.insert len rom) s = .next t ∧ fresh t ∧
        t.cart = some { kind := if type = 0 then .mbc0 else if type ≤ 3 then .mbc1 else .inert,
                        romLength := len, rom := rom, ram := [], ramEnable := false, romLow := 1, hi2 := 0,
                        ramBank := 0, mode := false } ∧
        t.shelf = s.shelf ++ s.cart.toList ∧
        t.mbcReports = if 3 < type then s.mbcReports ++ [Memory.read rom 0x0147] else s.mbcReports)) ∧
    (∃ t : State, hostAction .reinsert s = .next t ∧ fresh t ∧ t.cart = s.cart ∧ t.shelf = s.shelf ∧
      t.mbcReports = s.mbcReports) ∧
    (∀ k : Nat, s.shelf[k]? = none → hostAction (.putBack k) s = .next s) ∧
    (∀ (k : Nat) (c : Cartridge), s.shelf[k]? = some c → ∃ t : State, hostAction (.putBack k) s = .next t ∧ fresh t ∧
      t.cart = some c ∧ t.shelf = s.shelf.eraseIdx k ++ s.cart.toList ∧ t.mbcReports = s.mbcReports ∧
      ∀ x : Fault, ∃ u : State, recover s x (.putBack k) = .next u ∧ fresh u ∧ u.cart = some c) ∧
    (∀ (len : Nat) (rom : List Host.Cell) (c : Cartridge) (t : State), s.cart = some c →
      hostAction (.insert len rom) s = .next t →
      ∃ (k : Nat) (u : State), hostAction (.putBack k) t = .next u ∧ u.cart = some c) ∧
    (∀ c : Cartridge,
      (∃ t : State, recover s (.bankOutOfRange c) .reinsert = .next t ∧ fresh t ∧ t.cart = some c ∧
        t.shelf = s.shelf) ∧
      ∀ (len : Nat) (rom : List Host.Cell),
        recover s (.bankOutOfRange c) (.insert len rom) = hostAction (.insert len rom) { s with cart := some c }) ∧
    (∀ x : Fault, (∀ d : Cartridge, x ≠ .bankOutOfRange d) →
      (∀ c : Cartridge, s.cart = some c → ∃ t : State, recover s x .reinsert = .next t ∧ fresh t ∧
        t.cart = some c ∧ t.shelf = s.shelf) ∧
      ∀ (len : Nat) (rom : List Host.Cell), recover s x (.insert len rom) = hostAction (.insert len rom) s) ∧
    (∀ (x : Fault) (v : Byte), recover s x (.joypad v) = .fault x ∧ recover s x .joypadRequest = .fault x) ∧
    (∀ v : Byte, hostAction (.joypad v) s = .next { s with mem := Memory.write s.mem 0xFF00 v }) ∧
    hostAction .joypadRequest s = .next { s with mem := Memory.write s.mem 0xFF0F (s.read 0xFF0F ||| 0x10) } ∧
    hostActions [] s = .next s ∧
    ∀ (x : HostAction) (xs : List HostAction) (t : State), hostAction x s = .next t →
      hostActions (x :: xs) s = hostActions xs t

/-! ### Invariants -/

/-- The invariants hold right after reset. -/
def Obligations.ResetMeetsTheInvariants : Prop := State.reset.Inv

/-- Every step keeps every byte store in its canonical form. -/
def Obligations.StepKeepsMemoryCanonical : Prop :=
  ∀ s t : State, s.MemoryInv → step s = .next t → t.MemoryInv

/-- Every step keeps the bounds on the CPU's credit (R310: never above one budget, and between two `CPU.run` calls none
is left over; under the spec's cost table and cut the debt is never more than 5) and, under that cut, keeps a fetched
instruction out of the queue (R315). -/
def Obligations.StepKeepsTheCreditBounds : Prop :=
  ∀ s t : State, s.CpuInv → step s = .next t → t.CpuInv

/-- Every step keeps the Cartridge's bank registers on banks that exist where the default of `MBC1_BANK_OOR` is in force,
`romLow` not zero (R89, R92), DMA aimed at OAM,
the Timer's accumulators below their periods and the slice number below 154 (R42, R97, R420). -/
def Obligations.StepKeepsTheRanges : Prop :=
  ∀ s t : State, step s = .next t → (s.CartInv → t.CartInv) ∧ (s.DeviceInv → t.DeviceInv)

/-- Every step keeps the PPU in step with its registers and its lines (R351, R353, R362, R364, R365, R427): so no CPU
turn ever reads mode 2 or 3. -/
def Obligations.StepKeepsThePpuInStep : Prop :=
  ∀ s t : State, s.MemoryInv → s.PpuInv → step s = .next t → t.PpuInv

/-! ### The picture -/

/-- The pixel function (R359, R360, R361): the background or the window through its tile map, the tiles addressed
from 0x8000 or signed from 0x9000, and the palette; nothing of them with `LCDC` bit 0 clear; over it, with `LCDC` bit
1 set, the objects selected for the line (ObjectPriority), each with its flips and, at height 16, its even tile. The
window's condition is decision D27, what `LCDC` bit 0 does D28, the layouts general knowledge of the spec (G5). -/
def Obligations.PixelFunction : Prop :=
  ∀ (s : State) (x ly : Nat),
    let byte : Nat → Nat := fun a => (s.read (BitVec.ofNat 16 a)).toNat
    let bit : Nat → Nat → Nat := fun a b => byte a / 2 ^ b % 2
    let tilePixel : Nat → Nat → Nat := fun row col => 2 * bit (row + 1) (7 - col) + bit row (7 - col)
    let mapPixel : Nat → Nat → Nat → Nat := fun mapBit px py =>
      let idx := byte ((if bit 0xFF40 mapBit = 1 then 0x9C00 else 0x9800) + 32 * (py / 8) + px / 8)
      let tile := if bit 0xFF40 4 = 1 then 0x8000 + 16 * idx
        else if idx < 128 then 0x9000 + 16 * idx else 0x8000 + 16 * idx
      tilePixel (tile + 2 * (py % 8)) (px % 8)
    let bgci := if bit 0xFF40 0 = 0 then 0
      else if bit 0xFF40 5 = 1 ∧ byte 0xFF4A ≤ ly ∧ byte 0xFF4B ≤ x + 7
      then mapPixel 6 (x + 7 - byte 0xFF4B) (ly - byte 0xFF4A)
      else mapPixel 3 ((x + byte 0xFF43) % 256) ((ly + byte 0xFF42) % 256)
    let shade := if bit 0xFF40 0 = 0 then 0 else byte 0xFF47 / 4 ^ bgci % 4
    let height := if bit 0xFF40 2 = 1 then 16 else 8
    s.objHeight = height ∧
    (∀ i : Nat, s.objColour x ly i =
      let o := 0xFE00 + 4 * i
      if byte (o + 1) ≤ x + 8 ∧ x + 8 < byte (o + 1) + 8 then
        let col := if bit (o + 3) 5 = 1 then 7 - (x + 8 - byte (o + 1)) else x + 8 - byte (o + 1)
        let line := ly + 16 - byte o
        let row := if bit (o + 3) 6 = 1 then height - 1 - line else line
        let tile := if height = 16 then byte (o + 2) / 2 * 2 else byte (o + 2)
        tilePixel (0x8000 + 16 * tile + 2 * row) col
      else 0) ∧
    s.pixel x ly = if bit 0xFF40 1 = 0 then shade else s.objectShade x ly bgci shade (s.selected ly)

end
end

