-- ==== Sys2Proof/Laws/State.lean ====
section
/-! SUPPORT. The small lemmas of the state: one per field per update, so that no later proof unfolds a record update. -/

namespace Sys2Proof.Machine

variable (s : State)

/-! ### `setReg` -/

@[simp] theorem State.setReg_mem (r : Reg8) (v : Byte) : (s.setReg r v).mem = s.mem := by cases r <;> rfl
@[simp] theorem State.setReg_bios (r : Reg8) (v : Byte) : (s.setReg r v).bios = s.bios := by cases r <;> rfl
@[simp] theorem State.setReg_biosMapped (r : Reg8) (v : Byte) : (s.setReg r v).biosMapped = s.biosMapped := by cases r <;> rfl
@[simp] theorem State.setReg_cart (r : Reg8) (v : Byte) : (s.setReg r v).cart = s.cart := by cases r <;> rfl
@[simp] theorem State.setReg_shelf (r : Reg8) (v : Byte) : (s.setReg r v).shelf = s.shelf := by cases r <;> rfl
@[simp] theorem State.setReg_sound (r : Reg8) (v : Byte) : (s.setReg r v).sound = s.sound := by cases r <;> rfl
@[simp] theorem State.setReg_dmaQueue (r : Reg8) (v : Byte) : (s.setReg r v).dmaQueue = s.dmaQueue := by cases r <;> rfl
@[simp] theorem State.setReg_timer (r : Reg8) (v : Byte) : (s.setReg r v).timer = s.timer := by cases r <;> rfl
@[simp] theorem State.setReg_ppu (r : Reg8) (v : Byte) : (s.setReg r v).ppu = s.ppu := by cases r <;> rfl
@[simp] theorem State.setReg_debugOut (r : Reg8) (v : Byte) : (s.setReg r v).debugOut = s.debugOut := by cases r <;> rfl
@[simp] theorem State.setReg_mbcReports (r : Reg8) (v : Byte) : (s.setReg r v).mbcReports = s.mbcReports := by cases r <;> rfl
@[simp] theorem State.setReg_clock (r : Reg8) (v : Byte) : (s.setReg r v).clock = s.clock := by cases r <;> rfl
@[simp] theorem State.setReg_apuRuns (r : Reg8) (v : Byte) : (s.setReg r v).apuRuns = s.apuRuns := by cases r <;> rfl
@[simp] theorem State.setReg_params (r : Reg8) (v : Byte) : (s.setReg r v).params = s.params := by cases r <;> rfl
@[simp] theorem State.setReg_hostInput (r : Reg8) (v : Byte) : (s.setReg r v).hostInput = s.hostInput := by cases r <;> rfl
@[simp] theorem State.setReg_cpu_f (r : Reg8) (v : Byte) : (s.setReg r v).cpu.f = s.cpu.f := by cases r <;> rfl
@[simp] theorem State.setReg_cpu_sp (r : Reg8) (v : Byte) : (s.setReg r v).cpu.sp = s.cpu.sp := by cases r <;> rfl
@[simp] theorem State.setReg_cpu_pc (r : Reg8) (v : Byte) : (s.setReg r v).cpu.pc = s.cpu.pc := by cases r <;> rfl
@[simp] theorem State.setReg_cpu_ime (r : Reg8) (v : Byte) : (s.setReg r v).cpu.ime = s.cpu.ime := by cases r <;> rfl
@[simp] theorem State.setReg_cpu_queue (r : Reg8) (v : Byte) : (s.setReg r v).cpu.queue = s.cpu.queue := by cases r <;> rfl
@[simp] theorem State.setReg_cpu_credit (r : Reg8) (v : Byte) : (s.setReg r v).cpu.credit = s.cpu.credit := by cases r <;> rfl

/-! ### `setFlags` -/

@[simp] theorem State.setFlags_mem (f : Flags) : (s.setFlags f).mem = s.mem := rfl
@[simp] theorem State.setFlags_bios (f : Flags) : (s.setFlags f).bios = s.bios := rfl
@[simp] theorem State.setFlags_biosMapped (f : Flags) : (s.setFlags f).biosMapped = s.biosMapped := rfl
@[simp] theorem State.setFlags_cart (f : Flags) : (s.setFlags f).cart = s.cart := rfl
@[simp] theorem State.setFlags_shelf (f : Flags) : (s.setFlags f).shelf = s.shelf := rfl
@[simp] theorem State.setFlags_sound (f : Flags) : (s.setFlags f).sound = s.sound := rfl
@[simp] theorem State.setFlags_dmaQueue (f : Flags) : (s.setFlags f).dmaQueue = s.dmaQueue := rfl
@[simp] theorem State.setFlags_timer (f : Flags) : (s.setFlags f).timer = s.timer := rfl
@[simp] theorem State.setFlags_ppu (f : Flags) : (s.setFlags f).ppu = s.ppu := rfl
@[simp] theorem State.setFlags_debugOut (f : Flags) : (s.setFlags f).debugOut = s.debugOut := rfl
@[simp] theorem State.setFlags_mbcReports (f : Flags) : (s.setFlags f).mbcReports = s.mbcReports := rfl
@[simp] theorem State.setFlags_clock (f : Flags) : (s.setFlags f).clock = s.clock := rfl
@[simp] theorem State.setFlags_apuRuns (f : Flags) : (s.setFlags f).apuRuns = s.apuRuns := rfl
@[simp] theorem State.setFlags_params (f : Flags) : (s.setFlags f).params = s.params := rfl
@[simp] theorem State.setFlags_hostInput (f : Flags) : (s.setFlags f).hostInput = s.hostInput := rfl
@[simp] theorem State.setFlags_cpu_a (f : Flags) : (s.setFlags f).cpu.a = s.cpu.a := rfl
@[simp] theorem State.setFlags_cpu_b (f : Flags) : (s.setFlags f).cpu.b = s.cpu.b := rfl
@[simp] theorem State.setFlags_cpu_c (f : Flags) : (s.setFlags f).cpu.c = s.cpu.c := rfl
@[simp] theorem State.setFlags_cpu_d (f : Flags) : (s.setFlags f).cpu.d = s.cpu.d := rfl
@[simp] theorem State.setFlags_cpu_e (f : Flags) : (s.setFlags f).cpu.e = s.cpu.e := rfl
@[simp] theorem State.setFlags_cpu_h (f : Flags) : (s.setFlags f).cpu.h = s.cpu.h := rfl
@[simp] theorem State.setFlags_cpu_l (f : Flags) : (s.setFlags f).cpu.l = s.cpu.l := rfl
@[simp] theorem State.setFlags_cpu_f (f : Flags) : (s.setFlags f).cpu.f = f := rfl
@[simp] theorem State.setFlags_cpu_sp (f : Flags) : (s.setFlags f).cpu.sp = s.cpu.sp := rfl
@[simp] theorem State.setFlags_cpu_pc (f : Flags) : (s.setFlags f).cpu.pc = s.cpu.pc := rfl
@[simp] theorem State.setFlags_cpu_ime (f : Flags) : (s.setFlags f).cpu.ime = s.cpu.ime := rfl
@[simp] theorem State.setFlags_cpu_queue (f : Flags) : (s.setFlags f).cpu.queue = s.cpu.queue := rfl
@[simp] theorem State.setFlags_cpu_credit (f : Flags) : (s.setFlags f).cpu.credit = s.cpu.credit := rfl

/-! ### `setSp` -/

@[simp] theorem State.setSp_mem (w : Word) : (s.setSp w).mem = s.mem := rfl
@[simp] theorem State.setSp_bios (w : Word) : (s.setSp w).bios = s.bios := rfl
@[simp] theorem State.setSp_biosMapped (w : Word) : (s.setSp w).biosMapped = s.biosMapped := rfl
@[simp] theorem State.setSp_cart (w : Word) : (s.setSp w).cart = s.cart := rfl
@[simp] theorem State.setSp_shelf (w : Word) : (s.setSp w).shelf = s.shelf := rfl
@[simp] theorem State.setSp_sound (w : Word) : (s.setSp w).sound = s.sound := rfl
@[simp] theorem State.setSp_dmaQueue (w : Word) : (s.setSp w).dmaQueue = s.dmaQueue := rfl
@[simp] theorem State.setSp_timer (w : Word) : (s.setSp w).timer = s.timer := rfl
@[simp] theorem State.setSp_ppu (w : Word) : (s.setSp w).ppu = s.ppu := rfl
@[simp] theorem State.setSp_debugOut (w : Word) : (s.setSp w).debugOut = s.debugOut := rfl
@[simp] theorem State.setSp_mbcReports (w : Word) : (s.setSp w).mbcReports = s.mbcReports := rfl
@[simp] theorem State.setSp_clock (w : Word) : (s.setSp w).clock = s.clock := rfl
@[simp] theorem State.setSp_apuRuns (w : Word) : (s.setSp w).apuRuns = s.apuRuns := rfl
@[simp] theorem State.setSp_params (w : Word) : (s.setSp w).params = s.params := rfl
@[simp] theorem State.setSp_hostInput (w : Word) : (s.setSp w).hostInput = s.hostInput := rfl
@[simp] theorem State.setSp_cpu_a (w : Word) : (s.setSp w).cpu.a = s.cpu.a := rfl
@[simp] theorem State.setSp_cpu_b (w : Word) : (s.setSp w).cpu.b = s.cpu.b := rfl
@[simp] theorem State.setSp_cpu_c (w : Word) : (s.setSp w).cpu.c = s.cpu.c := rfl
@[simp] theorem State.setSp_cpu_d (w : Word) : (s.setSp w).cpu.d = s.cpu.d := rfl
@[simp] theorem State.setSp_cpu_e (w : Word) : (s.setSp w).cpu.e = s.cpu.e := rfl
@[simp] theorem State.setSp_cpu_h (w : Word) : (s.setSp w).cpu.h = s.cpu.h := rfl
@[simp] theorem State.setSp_cpu_l (w : Word) : (s.setSp w).cpu.l = s.cpu.l := rfl
@[simp] theorem State.setSp_cpu_f (w : Word) : (s.setSp w).cpu.f = s.cpu.f := rfl
@[simp] theorem State.setSp_cpu_sp (w : Word) : (s.setSp w).cpu.sp = w := rfl
@[simp] theorem State.setSp_cpu_pc (w : Word) : (s.setSp w).cpu.pc = s.cpu.pc := rfl
@[simp] theorem State.setSp_cpu_ime (w : Word) : (s.setSp w).cpu.ime = s.cpu.ime := rfl
@[simp] theorem State.setSp_cpu_queue (w : Word) : (s.setSp w).cpu.queue = s.cpu.queue := rfl
@[simp] theorem State.setSp_cpu_credit (w : Word) : (s.setSp w).cpu.credit = s.cpu.credit := rfl

/-! ### `setPc` -/

@[simp] theorem State.setPc_mem (w : Word) : (s.setPc w).mem = s.mem := rfl
@[simp] theorem State.setPc_bios (w : Word) : (s.setPc w).bios = s.bios := rfl
@[simp] theorem State.setPc_biosMapped (w : Word) : (s.setPc w).biosMapped = s.biosMapped := rfl
@[simp] theorem State.setPc_cart (w : Word) : (s.setPc w).cart = s.cart := rfl
@[simp] theorem State.setPc_shelf (w : Word) : (s.setPc w).shelf = s.shelf := rfl
@[simp] theorem State.setPc_sound (w : Word) : (s.setPc w).sound = s.sound := rfl
@[simp] theorem State.setPc_dmaQueue (w : Word) : (s.setPc w).dmaQueue = s.dmaQueue := rfl
@[simp] theorem State.setPc_timer (w : Word) : (s.setPc w).timer = s.timer := rfl
@[simp] theorem State.setPc_ppu (w : Word) : (s.setPc w).ppu = s.ppu := rfl
@[simp] theorem State.setPc_debugOut (w : Word) : (s.setPc w).debugOut = s.debugOut := rfl
@[simp] theorem State.setPc_mbcReports (w : Word) : (s.setPc w).mbcReports = s.mbcReports := rfl
@[simp] theorem State.setPc_clock (w : Word) : (s.setPc w).clock = s.clock := rfl
@[simp] theorem State.setPc_apuRuns (w : Word) : (s.setPc w).apuRuns = s.apuRuns := rfl
@[simp] theorem State.setPc_params (w : Word) : (s.setPc w).params = s.params := rfl
@[simp] theorem State.setPc_hostInput (w : Word) : (s.setPc w).hostInput = s.hostInput := rfl
@[simp] theorem State.setPc_cpu_a (w : Word) : (s.setPc w).cpu.a = s.cpu.a := rfl
@[simp] theorem State.setPc_cpu_b (w : Word) : (s.setPc w).cpu.b = s.cpu.b := rfl
@[simp] theorem State.setPc_cpu_c (w : Word) : (s.setPc w).cpu.c = s.cpu.c := rfl
@[simp] theorem State.setPc_cpu_d (w : Word) : (s.setPc w).cpu.d = s.cpu.d := rfl
@[simp] theorem State.setPc_cpu_e (w : Word) : (s.setPc w).cpu.e = s.cpu.e := rfl
@[simp] theorem State.setPc_cpu_h (w : Word) : (s.setPc w).cpu.h = s.cpu.h := rfl
@[simp] theorem State.setPc_cpu_l (w : Word) : (s.setPc w).cpu.l = s.cpu.l := rfl
@[simp] theorem State.setPc_cpu_f (w : Word) : (s.setPc w).cpu.f = s.cpu.f := rfl
@[simp] theorem State.setPc_cpu_sp (w : Word) : (s.setPc w).cpu.sp = s.cpu.sp := rfl
@[simp] theorem State.setPc_cpu_pc (w : Word) : (s.setPc w).cpu.pc = w := rfl
@[simp] theorem State.setPc_cpu_ime (w : Word) : (s.setPc w).cpu.ime = s.cpu.ime := rfl
@[simp] theorem State.setPc_cpu_queue (w : Word) : (s.setPc w).cpu.queue = s.cpu.queue := rfl
@[simp] theorem State.setPc_cpu_credit (w : Word) : (s.setPc w).cpu.credit = s.cpu.credit := rfl

/-! ### `setIme` -/

@[simp] theorem State.setIme_mem (b : Bool) : (s.setIme b).mem = s.mem := rfl
@[simp] theorem State.setIme_bios (b : Bool) : (s.setIme b).bios = s.bios := rfl
@[simp] theorem State.setIme_biosMapped (b : Bool) : (s.setIme b).biosMapped = s.biosMapped := rfl
@[simp] theorem State.setIme_cart (b : Bool) : (s.setIme b).cart = s.cart := rfl
@[simp] theorem State.setIme_shelf (b : Bool) : (s.setIme b).shelf = s.shelf := rfl
@[simp] theorem State.setIme_sound (b : Bool) : (s.setIme b).sound = s.sound := rfl
@[simp] theorem State.setIme_dmaQueue (b : Bool) : (s.setIme b).dmaQueue = s.dmaQueue := rfl
@[simp] theorem State.setIme_timer (b : Bool) : (s.setIme b).timer = s.timer := rfl
@[simp] theorem State.setIme_ppu (b : Bool) : (s.setIme b).ppu = s.ppu := rfl
@[simp] theorem State.setIme_debugOut (b : Bool) : (s.setIme b).debugOut = s.debugOut := rfl
@[simp] theorem State.setIme_mbcReports (b : Bool) : (s.setIme b).mbcReports = s.mbcReports := rfl
@[simp] theorem State.setIme_clock (b : Bool) : (s.setIme b).clock = s.clock := rfl
@[simp] theorem State.setIme_apuRuns (b : Bool) : (s.setIme b).apuRuns = s.apuRuns := rfl
@[simp] theorem State.setIme_params (b : Bool) : (s.setIme b).params = s.params := rfl
@[simp] theorem State.setIme_hostInput (b : Bool) : (s.setIme b).hostInput = s.hostInput := rfl
@[simp] theorem State.setIme_cpu_a (b : Bool) : (s.setIme b).cpu.a = s.cpu.a := rfl
@[simp] theorem State.setIme_cpu_b (b : Bool) : (s.setIme b).cpu.b = s.cpu.b := rfl
@[simp] theorem State.setIme_cpu_c (b : Bool) : (s.setIme b).cpu.c = s.cpu.c := rfl
@[simp] theorem State.setIme_cpu_d (b : Bool) : (s.setIme b).cpu.d = s.cpu.d := rfl
@[simp] theorem State.setIme_cpu_e (b : Bool) : (s.setIme b).cpu.e = s.cpu.e := rfl
@[simp] theorem State.setIme_cpu_h (b : Bool) : (s.setIme b).cpu.h = s.cpu.h := rfl
@[simp] theorem State.setIme_cpu_l (b : Bool) : (s.setIme b).cpu.l = s.cpu.l := rfl
@[simp] theorem State.setIme_cpu_f (b : Bool) : (s.setIme b).cpu.f = s.cpu.f := rfl
@[simp] theorem State.setIme_cpu_sp (b : Bool) : (s.setIme b).cpu.sp = s.cpu.sp := rfl
@[simp] theorem State.setIme_cpu_pc (b : Bool) : (s.setIme b).cpu.pc = s.cpu.pc := rfl
@[simp] theorem State.setIme_cpu_ime (b : Bool) : (s.setIme b).cpu.ime = b := rfl
@[simp] theorem State.setIme_cpu_queue (b : Bool) : (s.setIme b).cpu.queue = s.cpu.queue := rfl
@[simp] theorem State.setIme_cpu_credit (b : Bool) : (s.setIme b).cpu.credit = s.cpu.credit := rfl

/-! ### `setQueue` -/

@[simp] theorem State.setQueue_mem (q : Option Command) : (s.setQueue q).mem = s.mem := rfl
@[simp] theorem State.setQueue_bios (q : Option Command) : (s.setQueue q).bios = s.bios := rfl
@[simp] theorem State.setQueue_biosMapped (q : Option Command) : (s.setQueue q).biosMapped = s.biosMapped := rfl
@[simp] theorem State.setQueue_cart (q : Option Command) : (s.setQueue q).cart = s.cart := rfl
@[simp] theorem State.setQueue_shelf (q : Option Command) : (s.setQueue q).shelf = s.shelf := rfl
@[simp] theorem State.setQueue_sound (q : Option Command) : (s.setQueue q).sound = s.sound := rfl
@[simp] theorem State.setQueue_dmaQueue (q : Option Command) : (s.setQueue q).dmaQueue = s.dmaQueue := rfl
@[simp] theorem State.setQueue_timer (q : Option Command) : (s.setQueue q).timer = s.timer := rfl
@[simp] theorem State.setQueue_ppu (q : Option Command) : (s.setQueue q).ppu = s.ppu := rfl
@[simp] theorem State.setQueue_debugOut (q : Option Command) : (s.setQueue q).debugOut = s.debugOut := rfl
@[simp] theorem State.setQueue_mbcReports (q : Option Command) : (s.setQueue q).mbcReports = s.mbcReports := rfl
@[simp] theorem State.setQueue_clock (q : Option Command) : (s.setQueue q).clock = s.clock := rfl
@[simp] theorem State.setQueue_apuRuns (q : Option Command) : (s.setQueue q).apuRuns = s.apuRuns := rfl
@[simp] theorem State.setQueue_params (q : Option Command) : (s.setQueue q).params = s.params := rfl
@[simp] theorem State.setQueue_hostInput (q : Option Command) : (s.setQueue q).hostInput = s.hostInput := rfl
@[simp] theorem State.setQueue_cpu_a (q : Option Command) : (s.setQueue q).cpu.a = s.cpu.a := rfl
@[simp] theorem State.setQueue_cpu_b (q : Option Command) : (s.setQueue q).cpu.b = s.cpu.b := rfl
@[simp] theorem State.setQueue_cpu_c (q : Option Command) : (s.setQueue q).cpu.c = s.cpu.c := rfl
@[simp] theorem State.setQueue_cpu_d (q : Option Command) : (s.setQueue q).cpu.d = s.cpu.d := rfl
@[simp] theorem State.setQueue_cpu_e (q : Option Command) : (s.setQueue q).cpu.e = s.cpu.e := rfl
@[simp] theorem State.setQueue_cpu_h (q : Option Command) : (s.setQueue q).cpu.h = s.cpu.h := rfl
@[simp] theorem State.setQueue_cpu_l (q : Option Command) : (s.setQueue q).cpu.l = s.cpu.l := rfl
@[simp] theorem State.setQueue_cpu_f (q : Option Command) : (s.setQueue q).cpu.f = s.cpu.f := rfl
@[simp] theorem State.setQueue_cpu_sp (q : Option Command) : (s.setQueue q).cpu.sp = s.cpu.sp := rfl
@[simp] theorem State.setQueue_cpu_pc (q : Option Command) : (s.setQueue q).cpu.pc = s.cpu.pc := rfl
@[simp] theorem State.setQueue_cpu_ime (q : Option Command) : (s.setQueue q).cpu.ime = s.cpu.ime := rfl
@[simp] theorem State.setQueue_cpu_queue (q : Option Command) : (s.setQueue q).cpu.queue = q := rfl
@[simp] theorem State.setQueue_cpu_credit (q : Option Command) : (s.setQueue q).cpu.credit = s.cpu.credit := rfl

/-! ### `charge` -/

@[simp] theorem State.charge_mem (n : Nat) : (s.charge n).mem = s.mem := rfl
@[simp] theorem State.charge_bios (n : Nat) : (s.charge n).bios = s.bios := rfl
@[simp] theorem State.charge_biosMapped (n : Nat) : (s.charge n).biosMapped = s.biosMapped := rfl
@[simp] theorem State.charge_cart (n : Nat) : (s.charge n).cart = s.cart := rfl
@[simp] theorem State.charge_shelf (n : Nat) : (s.charge n).shelf = s.shelf := rfl
@[simp] theorem State.charge_sound (n : Nat) : (s.charge n).sound = s.sound := rfl
@[simp] theorem State.charge_dmaQueue (n : Nat) : (s.charge n).dmaQueue = s.dmaQueue := rfl
@[simp] theorem State.charge_timer (n : Nat) : (s.charge n).timer = s.timer := rfl
@[simp] theorem State.charge_ppu (n : Nat) : (s.charge n).ppu = s.ppu := rfl
@[simp] theorem State.charge_debugOut (n : Nat) : (s.charge n).debugOut = s.debugOut := rfl
@[simp] theorem State.charge_mbcReports (n : Nat) : (s.charge n).mbcReports = s.mbcReports := rfl
@[simp] theorem State.charge_clock (n : Nat) : (s.charge n).clock = s.clock := rfl
@[simp] theorem State.charge_apuRuns (n : Nat) : (s.charge n).apuRuns = s.apuRuns := rfl
@[simp] theorem State.charge_params (n : Nat) : (s.charge n).params = s.params := rfl
@[simp] theorem State.charge_hostInput (n : Nat) : (s.charge n).hostInput = s.hostInput := rfl
@[simp] theorem State.charge_cpu_a (n : Nat) : (s.charge n).cpu.a = s.cpu.a := rfl
@[simp] theorem State.charge_cpu_b (n : Nat) : (s.charge n).cpu.b = s.cpu.b := rfl
@[simp] theorem State.charge_cpu_c (n : Nat) : (s.charge n).cpu.c = s.cpu.c := rfl
@[simp] theorem State.charge_cpu_d (n : Nat) : (s.charge n).cpu.d = s.cpu.d := rfl
@[simp] theorem State.charge_cpu_e (n : Nat) : (s.charge n).cpu.e = s.cpu.e := rfl
@[simp] theorem State.charge_cpu_h (n : Nat) : (s.charge n).cpu.h = s.cpu.h := rfl
@[simp] theorem State.charge_cpu_l (n : Nat) : (s.charge n).cpu.l = s.cpu.l := rfl
@[simp] theorem State.charge_cpu_f (n : Nat) : (s.charge n).cpu.f = s.cpu.f := rfl
@[simp] theorem State.charge_cpu_sp (n : Nat) : (s.charge n).cpu.sp = s.cpu.sp := rfl
@[simp] theorem State.charge_cpu_pc (n : Nat) : (s.charge n).cpu.pc = s.cpu.pc := rfl
@[simp] theorem State.charge_cpu_ime (n : Nat) : (s.charge n).cpu.ime = s.cpu.ime := rfl
@[simp] theorem State.charge_cpu_queue (n : Nat) : (s.charge n).cpu.queue = s.cpu.queue := rfl
@[simp] theorem State.charge_cpu_credit (n : Nat) : (s.charge n).cpu.credit = s.cpu.credit - n := rfl

/-! ### `settle` -/

@[simp] theorem State.settle_mem (x : Command) : (s.settle x).mem = s.mem := rfl
@[simp] theorem State.settle_bios (x : Command) : (s.settle x).bios = s.bios := rfl
@[simp] theorem State.settle_biosMapped (x : Command) : (s.settle x).biosMapped = s.biosMapped := rfl
@[simp] theorem State.settle_cart (x : Command) : (s.settle x).cart = s.cart := rfl
@[simp] theorem State.settle_shelf (x : Command) : (s.settle x).shelf = s.shelf := rfl
@[simp] theorem State.settle_sound (x : Command) : (s.settle x).sound = s.sound := rfl
@[simp] theorem State.settle_dmaQueue (x : Command) : (s.settle x).dmaQueue = s.dmaQueue := rfl
@[simp] theorem State.settle_timer (x : Command) : (s.settle x).timer = s.timer := rfl
@[simp] theorem State.settle_ppu (x : Command) : (s.settle x).ppu = s.ppu := rfl
@[simp] theorem State.settle_debugOut (x : Command) : (s.settle x).debugOut = s.debugOut := rfl
@[simp] theorem State.settle_mbcReports (x : Command) : (s.settle x).mbcReports = s.mbcReports := rfl
@[simp] theorem State.settle_clock (x : Command) : (s.settle x).clock = s.clock := rfl
@[simp] theorem State.settle_apuRuns (x : Command) : (s.settle x).apuRuns = s.apuRuns := rfl
@[simp] theorem State.settle_params (x : Command) : (s.settle x).params = s.params := rfl
@[simp] theorem State.settle_hostInput (x : Command) : (s.settle x).hostInput = s.hostInput := rfl
@[simp] theorem State.settle_cpu_a (x : Command) : (s.settle x).cpu.a = s.cpu.a := rfl
@[simp] theorem State.settle_cpu_b (x : Command) : (s.settle x).cpu.b = s.cpu.b := rfl
@[simp] theorem State.settle_cpu_c (x : Command) : (s.settle x).cpu.c = s.cpu.c := rfl
@[simp] theorem State.settle_cpu_d (x : Command) : (s.settle x).cpu.d = s.cpu.d := rfl
@[simp] theorem State.settle_cpu_e (x : Command) : (s.settle x).cpu.e = s.cpu.e := rfl
@[simp] theorem State.settle_cpu_h (x : Command) : (s.settle x).cpu.h = s.cpu.h := rfl
@[simp] theorem State.settle_cpu_l (x : Command) : (s.settle x).cpu.l = s.cpu.l := rfl
@[simp] theorem State.settle_cpu_f (x : Command) : (s.settle x).cpu.f = s.cpu.f := rfl
@[simp] theorem State.settle_cpu_sp (x : Command) : (s.settle x).cpu.sp = s.cpu.sp := rfl
@[simp] theorem State.settle_cpu_pc (x : Command) : (s.settle x).cpu.pc = s.cpu.pc := rfl
@[simp] theorem State.settle_cpu_ime (x : Command) : (s.settle x).cpu.ime = s.cpu.ime := rfl
@[simp] theorem State.settle_cpu_queue (x : Command) : (s.settle x).cpu.queue = s.cpu.queue := rfl
@[simp] theorem State.settle_cpu_credit (x : Command) : (s.settle x).cpu.credit = s.cpu.credit + x.cost - s.commandCost x := rfl

/-! ### `setPair` -/

@[simp] theorem State.setPair_mem (p : Pair) (w : Word) : (s.setPair p w).mem = s.mem := by cases p <;> rfl
@[simp] theorem State.setPair_bios (p : Pair) (w : Word) : (s.setPair p w).bios = s.bios := by cases p <;> rfl
@[simp] theorem State.setPair_biosMapped (p : Pair) (w : Word) : (s.setPair p w).biosMapped = s.biosMapped := by cases p <;> rfl
@[simp] theorem State.setPair_cart (p : Pair) (w : Word) : (s.setPair p w).cart = s.cart := by cases p <;> rfl
@[simp] theorem State.setPair_shelf (p : Pair) (w : Word) : (s.setPair p w).shelf = s.shelf := by cases p <;> rfl
@[simp] theorem State.setPair_sound (p : Pair) (w : Word) : (s.setPair p w).sound = s.sound := by cases p <;> rfl
@[simp] theorem State.setPair_dmaQueue (p : Pair) (w : Word) : (s.setPair p w).dmaQueue = s.dmaQueue := by cases p <;> rfl
@[simp] theorem State.setPair_timer (p : Pair) (w : Word) : (s.setPair p w).timer = s.timer := by cases p <;> rfl
@[simp] theorem State.setPair_ppu (p : Pair) (w : Word) : (s.setPair p w).ppu = s.ppu := by cases p <;> rfl
@[simp] theorem State.setPair_debugOut (p : Pair) (w : Word) : (s.setPair p w).debugOut = s.debugOut := by cases p <;> rfl
@[simp] theorem State.setPair_mbcReports (p : Pair) (w : Word) : (s.setPair p w).mbcReports = s.mbcReports := by cases p <;> rfl
@[simp] theorem State.setPair_clock (p : Pair) (w : Word) : (s.setPair p w).clock = s.clock := by cases p <;> rfl
@[simp] theorem State.setPair_apuRuns (p : Pair) (w : Word) : (s.setPair p w).apuRuns = s.apuRuns := by cases p <;> rfl
@[simp] theorem State.setPair_params (p : Pair) (w : Word) : (s.setPair p w).params = s.params := by cases p <;> rfl
@[simp] theorem State.setPair_hostInput (p : Pair) (w : Word) : (s.setPair p w).hostInput = s.hostInput := by cases p <;> rfl
@[simp] theorem State.setPair_cpu_a (p : Pair) (w : Word) : (s.setPair p w).cpu.a = s.cpu.a := by cases p <;> rfl
@[simp] theorem State.setPair_cpu_f (p : Pair) (w : Word) : (s.setPair p w).cpu.f = s.cpu.f := by cases p <;> rfl
@[simp] theorem State.setPair_cpu_pc (p : Pair) (w : Word) : (s.setPair p w).cpu.pc = s.cpu.pc := by cases p <;> rfl
@[simp] theorem State.setPair_cpu_ime (p : Pair) (w : Word) : (s.setPair p w).cpu.ime = s.cpu.ime := by cases p <;> rfl
@[simp] theorem State.setPair_cpu_queue (p : Pair) (w : Word) : (s.setPair p w).cpu.queue = s.cpu.queue := by cases p <;> rfl
@[simp] theorem State.setPair_cpu_credit (p : Pair) (w : Word) : (s.setPair p w).cpu.credit = s.cpu.credit := by cases p <;> rfl

/-! ### `setStackPair` -/

@[simp] theorem State.setStackPair_mem (p : StackPair) (w : Word) : (s.setStackPair p w).mem = s.mem := by cases p <;> rfl
@[simp] theorem State.setStackPair_bios (p : StackPair) (w : Word) : (s.setStackPair p w).bios = s.bios := by cases p <;> rfl
@[simp] theorem State.setStackPair_biosMapped (p : StackPair) (w : Word) : (s.setStackPair p w).biosMapped = s.biosMapped := by cases p <;> rfl
@[simp] theorem State.setStackPair_cart (p : StackPair) (w : Word) : (s.setStackPair p w).cart = s.cart := by cases p <;> rfl
@[simp] theorem State.setStackPair_shelf (p : StackPair) (w : Word) : (s.setStackPair p w).shelf = s.shelf := by cases p <;> rfl
@[simp] theorem State.setStackPair_sound (p : StackPair) (w : Word) : (s.setStackPair p w).sound = s.sound := by cases p <;> rfl
@[simp] theorem State.setStackPair_dmaQueue (p : StackPair) (w : Word) : (s.setStackPair p w).dmaQueue = s.dmaQueue := by cases p <;> rfl
@[simp] theorem State.setStackPair_timer (p : StackPair) (w : Word) : (s.setStackPair p w).timer = s.timer := by cases p <;> rfl
@[simp] theorem State.setStackPair_ppu (p : StackPair) (w : Word) : (s.setStackPair p w).ppu = s.ppu := by cases p <;> rfl
@[simp] theorem State.setStackPair_debugOut (p : StackPair) (w : Word) : (s.setStackPair p w).debugOut = s.debugOut := by cases p <;> rfl
@[simp] theorem State.setStackPair_mbcReports (p : StackPair) (w : Word) : (s.setStackPair p w).mbcReports = s.mbcReports := by cases p <;> rfl
@[simp] theorem State.setStackPair_clock (p : StackPair) (w : Word) : (s.setStackPair p w).clock = s.clock := by cases p <;> rfl
@[simp] theorem State.setStackPair_apuRuns (p : StackPair) (w : Word) : (s.setStackPair p w).apuRuns = s.apuRuns := by cases p <;> rfl
@[simp] theorem State.setStackPair_params (p : StackPair) (w : Word) : (s.setStackPair p w).params = s.params := by cases p <;> rfl
@[simp] theorem State.setStackPair_hostInput (p : StackPair) (w : Word) : (s.setStackPair p w).hostInput = s.hostInput := by cases p <;> rfl
@[simp] theorem State.setStackPair_cpu_sp (p : StackPair) (w : Word) : (s.setStackPair p w).cpu.sp = s.cpu.sp := by cases p <;> rfl
@[simp] theorem State.setStackPair_cpu_pc (p : StackPair) (w : Word) : (s.setStackPair p w).cpu.pc = s.cpu.pc := by cases p <;> rfl
@[simp] theorem State.setStackPair_cpu_ime (p : StackPair) (w : Word) : (s.setStackPair p w).cpu.ime = s.cpu.ime := by cases p <;> rfl
@[simp] theorem State.setStackPair_cpu_queue (p : StackPair) (w : Word) : (s.setStackPair p w).cpu.queue = s.cpu.queue := by cases p <;> rfl
@[simp] theorem State.setStackPair_cpu_credit (p : StackPair) (w : Word) : (s.setStackPair p w).cpu.credit = s.cpu.credit := by cases p <;> rfl

/-! ### `setPhase` -/

@[simp] theorem State.setPhase_cpu (p : Phase) : (s.setPhase p).cpu = s.cpu := rfl
@[simp] theorem State.setPhase_mem (p : Phase) : (s.setPhase p).mem = s.mem := rfl
@[simp] theorem State.setPhase_bios (p : Phase) : (s.setPhase p).bios = s.bios := rfl
@[simp] theorem State.setPhase_biosMapped (p : Phase) : (s.setPhase p).biosMapped = s.biosMapped := rfl
@[simp] theorem State.setPhase_cart (p : Phase) : (s.setPhase p).cart = s.cart := rfl
@[simp] theorem State.setPhase_shelf (p : Phase) : (s.setPhase p).shelf = s.shelf := rfl
@[simp] theorem State.setPhase_sound (p : Phase) : (s.setPhase p).sound = s.sound := rfl
@[simp] theorem State.setPhase_dmaQueue (p : Phase) : (s.setPhase p).dmaQueue = s.dmaQueue := rfl
@[simp] theorem State.setPhase_timer (p : Phase) : (s.setPhase p).timer = s.timer := rfl
@[simp] theorem State.setPhase_ppu (p : Phase) : (s.setPhase p).ppu = s.ppu := rfl
@[simp] theorem State.setPhase_debugOut (p : Phase) : (s.setPhase p).debugOut = s.debugOut := rfl
@[simp] theorem State.setPhase_mbcReports (p : Phase) : (s.setPhase p).mbcReports = s.mbcReports := rfl
@[simp] theorem State.setPhase_apuRuns (p : Phase) : (s.setPhase p).apuRuns = s.apuRuns := rfl
@[simp] theorem State.setPhase_params (p : Phase) : (s.setPhase p).params = s.params := rfl
@[simp] theorem State.setPhase_hostInput (p : Phase) : (s.setPhase p).hostInput = s.hostInput := rfl
@[simp] theorem State.setPhase_phase (p : Phase) : (s.setPhase p).clock.phase = p := rfl
@[simp] theorem State.setPhase_slice (p : Phase) : (s.setPhase p).clock.slice = s.clock.slice := rfl

/-! ### The register file -/

theorem State.reg_setReg (r r' : Reg8) (v : Byte) : (s.setReg r v).reg r' = if r' = r then v else s.reg r' := by
  cases r <;> cases r' <;> rfl

@[simp] theorem State.reg_setReg_self (r : Reg8) (v : Byte) : (s.setReg r v).reg r = v := by cases r <;> rfl

theorem hi_word (h l : Byte) : hi (word h l) = h := by
  apply BitVec.eq_of_getLsbD_eq
  intro i h8
  have e : (word h l).getLsbD (8 + i) = _ := BitVec.getLsbD_append (x := h) (y := l) (i := 8 + i)
  simp only [hi, BitVec.getLsbD_extractLsb', e]
  simp [h8]

theorem lo_word (h l : Byte) : lo (word h l) = l := by
  apply BitVec.eq_of_getLsbD_eq
  intro i h8
  have e : (word h l).getLsbD i = _ := BitVec.getLsbD_append (x := h) (y := l) (i := i)
  simp only [lo, BitVec.getLsbD_extractLsb', Nat.zero_add, e]
  simp [h8]

theorem word_hi_lo (w : Word) : word (hi w) (lo w) = w := by
  apply BitVec.eq_of_getLsbD_eq
  intro i h16
  refine (BitVec.getLsbD_append (x := hi w) (y := lo w) (i := i)).trans ?_
  simp only [hi, lo, BitVec.getLsbD_extractLsb']
  by_cases h : i < 8
  · simp [h]
  · simp [h, show i - 8 < 8 by omega, show 8 + (i - 8) = i by omega]

@[simp] theorem State.pair_setPair_self (p : Pair) (w : Word) : (s.setPair p w).pair p = w := by
  cases p <;> simp [State.setPair, State.pair, word_hi_lo]

/-- The flags byte and the flags are one thing (R22). -/
theorem Flags.ofByte_toByte (f : Flags) : Flags.ofByte f.toByte = f := by
  obtain ⟨z, n, h, c⟩ := f
  cases z <;> cases n <;> cases h <;> cases c <;> rfl

end Sys2Proof.Machine
end

