-- ==== Sys2Proof/Laws/Memory.lean ====
section
/-! SUPPORT. The laws of a byte store: a read after a write, and that every operation keeps the canonical form. -/

namespace Sys2Proof.Machine

/-- All addresses of `m` are above `a`. -/
def Memory.above (a : Nat) (m : List Host.Cell) : Prop := ∀ c ∈ m, a < c.1

theorem Memory.rising_cons {k : Nat} {w : Byte} {m : List Host.Cell} :
    Memory.rising ((k, w) :: m) = true ↔ Memory.above k m ∧ Memory.rising m = true := by
  induction m generalizing k w with
  | nil => simp [Memory.rising, Memory.above]
  | cons c m ih =>
    obtain ⟨k', w'⟩ := c
    rw [Memory.rising, Bool.and_eq_true, decide_eq_true_eq, ih]
    constructor
    · rintro ⟨hk, ha, hr⟩
      refine ⟨fun c hc => ?_, ha, hr⟩
      rcases List.mem_cons.mp hc with rfl | hc
      · exact hk
      · exact Nat.lt_trans hk (ha c hc)
    · rintro ⟨hk, ha, hr⟩
      exact ⟨hk (k', w') (by simp), ha, hr⟩

theorem Memory.wf_nil : Memory.wf [] = true := rfl

theorem Memory.wf_cons {k : Nat} {w : Byte} {m : List Host.Cell} :
    Memory.wf ((k, w) :: m) = true ↔ Memory.above k m ∧ w ≠ 0 ∧ Memory.wf m = true := by
  simp only [Memory.wf, Bool.and_eq_true, Memory.rising_cons, List.all_cons, bne_iff_ne, ne_eq]
  tauto

theorem Memory.read_above {a : Nat} {m : List Host.Cell} (h : Memory.above a m) : Memory.read m a = 0 := by
  induction m with
  | nil => rfl
  | cons c m ih =>
    obtain ⟨k, w⟩ := c
    have hk : a < k := h (k, w) (by simp)
    rw [Memory.read, if_neg (by omega)]
    exact ih fun c hc => h c (by simp [hc])

/-- A write leaves every other address alone, canonical form or not. -/
theorem Memory.read_write_other {a b : Nat} (m : List Host.Cell) (v : Byte) (h : b ≠ a) :
    Memory.read (Memory.write m a v) b = Memory.read m b := by
  induction m with
  | nil =>
    unfold Memory.write
    split
    · rfl
    · rw [Memory.read.eq_2, if_neg (by omega)]
  | cons c m ih =>
    obtain ⟨k, w⟩ := c
    unfold Memory.write
    split
    · rw [Memory.read, Memory.read, ih]
    · split
      · split
        · rw [Memory.read.eq_2, if_neg (by omega)]
        · rw [Memory.read, Memory.read, if_neg (by omega), if_neg (by omega)]
      · split
        · rfl
        · rw [Memory.read.eq_2, if_neg (by omega)]

/-- A read after a write to the same address gives the byte written. -/
theorem Memory.read_write_same {a : Nat} {m : List Host.Cell} (v : Byte) (h : Memory.rising m = true) :
    Memory.read (Memory.write m a v) a = v := by
  induction m with
  | nil =>
    unfold Memory.write
    split <;> simp_all [Memory.read]
  | cons c m ih =>
    obtain ⟨k, w⟩ := c
    obtain ⟨ha, hr⟩ := Memory.rising_cons.mp h
    unfold Memory.write
    split
    · rw [Memory.read, if_neg (by omega), ih hr]
    · split
      · next hk =>
        split
        · next hv => rw [Memory.read_above (hk ▸ ha), hv]
        · rw [Memory.read, if_pos rfl]
      · split
        · next hlt hne hv =>
          refine (Memory.read_above fun c hc => ?_).trans hv.symm
          rcases List.mem_cons.mp hc with rfl | hc
          · show a < k; omega
          · have := ha c hc; omega
        · rw [Memory.read, if_pos rfl]

theorem Memory.read_write {a b : Nat} {m : List Host.Cell} (v : Byte) (h : Memory.rising m = true) :
    Memory.read (Memory.write m a v) b = if b = a then v else Memory.read m b := by
  split
  · next e => rw [e, Memory.read_write_same v h]
  · next e => exact Memory.read_write_other m v e

theorem Memory.above_write {j a : Nat} {m : List Host.Cell} (v : Byte) (ha : j < a) (h : Memory.above j m) :
    Memory.above j (Memory.write m a v) := by
  induction m with
  | nil => unfold Memory.write; split <;> simp_all [Memory.above]
  | cons c m ih =>
    obtain ⟨k, w⟩ := c
    have hk : j < k := h (k, w) (by simp)
    have hm : Memory.above j m := fun c hc => h c (by simp [hc])
    have ih := ih hm
    simp only [Memory.above] at ih hm ⊢
    unfold Memory.write
    split
    · simpa [hk] using ih
    · split
      · split
        · exact hm
        · simpa [ha] using hm
      · split
        · simpa [hk] using hm
        · simpa [hk, ha] using hm

/-- A write keeps the canonical form. -/
theorem Memory.wf_write {m : List Host.Cell} (a : Nat) (v : Byte) (h : Memory.wf m = true) :
    Memory.wf (Memory.write m a v) = true := by
  induction m with
  | nil =>
    unfold Memory.write
    split
    · rfl
    · exact Memory.wf_cons.mpr ⟨by simp [Memory.above], ‹_›, rfl⟩
  | cons c m ih =>
    obtain ⟨k, w⟩ := c
    obtain ⟨hk, hw, hm⟩ := Memory.wf_cons.mp h
    unfold Memory.write
    split
    · exact Memory.wf_cons.mpr ⟨Memory.above_write v ‹_› hk, hw, ih hm⟩
    · split
      · next e =>
        split
        · exact hm
        · exact Memory.wf_cons.mpr ⟨e ▸ hk, ‹_›, hm⟩
      · split
        · exact h
        · refine Memory.wf_cons.mpr ⟨fun c hc => ?_, ‹_›, h⟩
          rcases List.mem_cons.mp hc with rfl | hc
          · show a < k; omega
          · have := hk c hc; omega

theorem Memory.rising_of_wf {m : List Host.Cell} (h : Memory.wf m = true) : Memory.rising m = true := by
  simp only [Memory.wf, Bool.and_eq_true] at h
  exact h.1

theorem Memory.above_biosPut {j i : Nat} {m : List Host.Cell} (v : Byte) (ha : j < i) (h : Memory.above j m) :
    Memory.above j (Memory.biosPut m i v) := by
  induction m with
  | nil => simpa [Memory.biosPut, Memory.above] using ha
  | cons c m ih =>
    obtain ⟨k, w⟩ := c
    have hk : j < k := h (k, w) (by simp)
    have hm : Memory.above j m := fun c hc => h c (by simp [hc])
    have ih := ih hm
    simp only [Memory.above] at ih hm ⊢
    unfold Memory.biosPut
    split
    · simpa [hk] using ih
    · split
      · simpa [ha] using hm
      · simpa [hk, ha] using hm

/-- Supplying a BIOS byte keeps the addresses rising. -/
theorem Memory.rising_biosPut {m : List Host.Cell} (i : Nat) (v : Byte) (h : Memory.rising m = true) :
    Memory.rising (Memory.biosPut m i v) = true := by
  induction m with
  | nil => rfl
  | cons c m ih =>
    obtain ⟨k, w⟩ := c
    obtain ⟨hk, hm⟩ := Memory.rising_cons.mp h
    unfold Memory.biosPut
    split
    · exact Memory.rising_cons.mpr ⟨Memory.above_biosPut v ‹_› hk, ih hm⟩
    · split
      · next e => exact Memory.rising_cons.mpr ⟨e ▸ hk, hm⟩
      · refine Memory.rising_cons.mpr ⟨fun c hc => ?_, h⟩
        rcases List.mem_cons.mp hc with rfl | hc
        · show i < k; omega
        · have := hk c hc; omega

/-- Equal reads everywhere make equal canonical stores: the form is canonical. -/
theorem Memory.ext_of_read {m n : List Host.Cell} (hm : Memory.wf m = true) (hn : Memory.wf n = true)
    (h : ∀ a, Memory.read m a = Memory.read n a) : m = n := by
  induction m generalizing n with
  | nil =>
    cases n with
    | nil => rfl
    | cons d n =>
      obtain ⟨k, w⟩ := d
      have := h k
      simp only [Memory.read, if_true] at this
      exact absurd this.symm (Memory.wf_cons.mp hn).2.1
  | cons c m ih =>
    obtain ⟨j, v⟩ := c
    obtain ⟨hj, hv, hm'⟩ := Memory.wf_cons.mp hm
    cases n with
    | nil =>
      have := h j
      simp only [Memory.read, if_true] at this
      exact absurd this hv
    | cons d n =>
      obtain ⟨k, w⟩ := d
      obtain ⟨hk, hw, hn'⟩ := Memory.wf_cons.mp hn
      have hjk : j = k := by
        rcases Nat.lt_trichotomy j k with hlt | he | hlt
        · have e := h j
          rw [Memory.read, if_pos rfl, Memory.read, if_neg (by omega),
            Memory.read_above fun c hc => Nat.lt_trans hlt (hk c hc)] at e
          exact absurd e hv
        · exact he
        · have e := h k
          rw [Memory.read, if_neg (by omega), Memory.read_above fun c hc => Nat.lt_trans hlt (hj c hc),
            Memory.read, if_pos rfl] at e
          exact absurd e.symm hw
      subst hjk
      have hvw : v = w := by
        have := h j
        simpa [Memory.read] using this
      subst hvw
      refine congrArg _ (ih hm' hn' fun a => ?_)
      by_cases ha : a = j
      · subst ha
        rw [Memory.read_above hj, Memory.read_above hk]
      · have := h a
        rwa [Memory.read, if_neg (by omega), Memory.read, if_neg (by omega)] at this

end Sys2Proof.Machine
end

