-- ==== Sys2Proof/Laws/Bus.lean ====
section
/-! SUPPORT. The laws of the bus: where an address resolves, what a quiet write can change, the registers as bytes of
`mem`, and that every write keeps the canonical form of memory. -/

namespace Sys2Proof.Machine

/-- The addresses of the fixed regions (R80). -/
theorem regionContains_fixed (s : State) (n : Nat) :
    s.regionContains .bios n = decide (n ≤ 0xFF) ∧
    s.regionContains .tileData n = decide (0x8000 ≤ n ∧ n ≤ 0x97FF) ∧
    s.regionContains .tileMaps n = decide (0x9800 ≤ n ∧ n ≤ 0x9FFF) ∧
    s.regionContains .workRam n = decide (0xC000 ≤ n ∧ n ≤ 0xCFFF) ∧
    s.regionContains .echo n = decide (0xE000 ≤ n ∧ n ≤ 0xFDFF) ∧
    s.regionContains .oam n = decide (0xFE00 ≤ n ∧ n ≤ 0xFE9F) ∧
    s.regionContains .waveRam n = decide (0xFF30 ≤ n ∧ n ≤ 0xFF3F) ∧
    s.regionContains .hram n = decide (0xFF80 ≤ n ∧ n ≤ 0xFFFE) ∧
    s.regionContains .catchAll n = decide (n ≤ 0xFFFF) := by
  refine ⟨?_, ?_, ?_, ?_, ?_, ?_, ?_, ?_, ?_⟩ <;> rw [Bool.eq_iff_iff, decide_eq_true_iff] <;>
    simp only [State.regionContains, Bool.and_eq_true, decide_eq_true_iff] <;> simp only [Region.range] <;> omega

/-- The place of an address that neither the BIOS nor the Cartridge owns: its own, but for the echo (R82, R83). -/
def ramPlace (a : Nat) : Place :=
  .ram (if 0xE000 ≤ a ∧ a ≤ 0xFDFF then 0xC000 + (a - 0xE000) % 0x1000 else a)

/-- The fixed regions own every address, and each maps it to its own place, but for the echo. -/
theorem resolve_fixed (s : State) {n : Nat} (h : n < 65536) :
    ∃ r, [Region.tileData, .tileMaps, .workRam, .echo, .oam, .waveRam, .hram, .catchAll].find?
        (fun r => s.regionContains r n) = some r ∧ r ≠ .bios ∧ r ≠ .cartridge ∧
      Place.ram (r.buffer.1 + (n - r.range.1) % r.buffer.2) = ramPlace n := by
  obtain ⟨-, h1, h2, h3, h4, h5, h6, h7, h8⟩ := regionContains_fixed s n
  simp only [List.find?, h1, h2, h3, h4, h5, h6, h7, h8, ramPlace]
  by_cases c1 : 0x8000 ≤ n ∧ n ≤ 0x97FF
  · refine ⟨.tileData, by simp [c1], by decide, by decide, ?_⟩
    simp only [Region.buffer, Region.range, Place.ram.injEq]; split <;> omega
  by_cases c2 : 0x9800 ≤ n ∧ n ≤ 0x9FFF
  · refine ⟨.tileMaps, by simp [c1, c2], by decide, by decide, ?_⟩
    simp only [Region.buffer, Region.range, Place.ram.injEq]; split <;> omega
  by_cases c3 : 0xC000 ≤ n ∧ n ≤ 0xCFFF
  · refine ⟨.workRam, by simp [c1, c2, c3], by decide, by decide, ?_⟩
    simp only [Region.buffer, Region.range, Place.ram.injEq]; split <;> omega
  by_cases c4 : 0xE000 ≤ n ∧ n ≤ 0xFDFF
  · refine ⟨.echo, by simp [c1, c2, c3, c4], by decide, by decide, ?_⟩
    simp only [Region.buffer, Region.range, Place.ram.injEq]; split <;> omega
  by_cases c5 : 0xFE00 ≤ n ∧ n ≤ 0xFE9F
  · refine ⟨.oam, by simp [c1, c2, c3, c4, c5], by decide, by decide, ?_⟩
    simp only [Region.buffer, Region.range, Place.ram.injEq]; split <;> omega
  by_cases c6 : 0xFF30 ≤ n ∧ n ≤ 0xFF3F
  · refine ⟨.waveRam, by simp [c1, c2, c3, c4, c5, c6], by decide, by decide, ?_⟩
    simp only [Region.buffer, Region.range, Place.ram.injEq]; split <;> omega
  by_cases c7 : 0xFF80 ≤ n ∧ n ≤ 0xFFFE
  · refine ⟨.hram, by simp [c1, c2, c3, c4, c5, c6, c7], by decide, by decide, ?_⟩
    simp only [Region.buffer, Region.range, Place.ram.injEq]; split <;> omega
  · refine ⟨.catchAll, by simp [c1, c2, c3, c4, c5, c6, c7, show n ≤ 65535 by omega], by decide, by decide, ?_⟩
    simp only [Region.buffer, Region.range, Place.ram.injEq]; split <;> omega

/-- First-match resolution: the BIOS, the Cartridge, else one of the fixed regions. -/
theorem resolve_eq (s : State) {n : Nat} :
    s.resolve n =
      if s.biosMapped = true ∧ n ≤ 0xFF then some .bios
      else if s.cart.any (fun c => c.contains n) = true then some .cartridge
      else [Region.tileData, .tileMaps, .workRam, .echo, .oam, .waveRam, .hram, .catchAll].find?
        (fun r => s.regionContains r n) := by
  have hb := (regionContains_fixed s n).1
  have hc : s.regionContains .cartridge n = s.cart.any (fun c => c.contains n) := by
    cases hcart : s.cart <;> simp [State.regionContains, hcart]
  unfold State.resolve State.regions
  cases hbm : s.biosMapped <;> cases hcart : s.cart <;> rw [hcart] at hc <;>
    simp only [Option.isSome, if_true, Bool.false_eq_true, if_false, List.nil_append, List.cons_append,
      false_and, true_and, Option.any_none, Option.any_some] at hc ⊢
  · next c =>
    rw [List.find?_cons, hc]
    by_cases hcc : c.contains n = true <;> simp [hcc]
  · rw [List.find?_cons, hb]
    by_cases h : n ≤ 0xFF <;> simp [h]
  · next c =>
    rw [List.find?_cons, hb, List.find?_cons, hc]
    by_cases h : n ≤ 0xFF <;> by_cases hcc : c.contains n = true <;> simp [h, hcc]

/-- What first-match resolution comes to (R80). -/
theorem State.place_eq (s : State) (a : Word) :
    s.place a =
      if s.biosMapped = true ∧ a.toNat ≤ 0xFF then .bios a.toNat
      else match s.cart with
        | some c => if c.contains a.toNat = true then c.place a.toNat else ramPlace a.toNat
        | none => ramPlace a.toNat := by
  obtain ⟨r, hr, hb, hc, hp⟩ := resolve_fixed s a.isLt
  unfold State.place
  rw [resolve_eq]
  by_cases h : s.biosMapped = true ∧ a.toNat ≤ 0xFF
  · simp [h]
  rw [if_neg h, if_neg h]
  have hram : (match some r with
      | none => Place.nowhere
      | some .bios => .bios a.toNat
      | some .cartridge => match s.cart with
        | some c => c.place a.toNat
        | none => .nowhere
      | some r => .ram (r.buffer.1 + (a.toNat - r.range.1) % r.buffer.2)) = ramPlace a.toNat := by
    rw [← hp]; cases r <;> first | rfl | contradiction
  cases hcart : s.cart with
  | none =>
    simp only [Option.any_none, Bool.false_eq_true, if_false, hr]
    exact hp
  | some c =>
    rw [hcart] at hram
    by_cases hcc : c.contains a.toNat = true
    · simp [hcc]
    · simp only [Option.any_some, hcc, hr]
      exact hram

/-! ### High addresses: the registers and all else above the Cartridge's windows -/

theorem Cartridge.contains_high (c : Cartridge) {n : Nat} (h : 0xC000 ≤ n) : c.contains n = false := by
  unfold Cartridge.contains
  split
  · rfl
  · simp only [Bool.or_eq_false_iff, Bool.and_eq_false_iff, decide_eq_false_iff_not]
    omega

theorem State.place_high (s : State) {a : Word} (h : 0xC000 ≤ a.toNat) : s.place a = ramPlace a.toNat := by
  rw [State.place_eq, if_neg (by omega)]
  cases s.cart with
  | none => rfl
  | some c => simp [c.contains_high h]

theorem ramPlace_own {n : Nat} (h : ¬ (0xE000 ≤ n ∧ n ≤ 0xFDFF)) : ramPlace n = .ram n := by
  simp [ramPlace, h]

theorem isSound_iff {k : Nat} : isSound k = true ↔ 0xFF10 ≤ k ∧ k ≤ 0xFF3F := by simp [isSound]

/-- A register outside the sound block is a byte of `mem`. -/
theorem State.read_register (s : State) {a : Word} (h : 0xFE00 ≤ a.toNat) (hs : isSound a.toNat = false) :
    s.read a = Memory.read s.mem a.toNat := by
  unfold State.read
  rw [s.place_high (by omega), ramPlace_own (by omega)]
  simp [State.placeRead, State.ramRead, hs]

theorem State.resolve_high (s : State) {n : Nat} (h : 0xC000 ≤ n) : s.resolve n ≠ some .cartridge := by
  rw [resolve_eq, if_neg (by omega), if_neg]
  · intro e
    have := List.mem_of_find?_eq_some e
    simp at this
  · cases s.cart <;> simp [Cartridge.contains_high, h]

theorem State.cartSelect_high (s : State) {n : Nat} (v : Byte) (h : 0xC000 ≤ n) : s.cartSelect n v = s.cart := by
  have := s.resolve_high h
  unfold State.cartSelect
  split
  · contradiction
  · rfl

/-- A quiet write to a register outside the sound block changes that byte of `mem` and nothing else. -/
theorem State.quiet_register (s : State) {a : Word} (v : Byte) (h : 0xFE00 ≤ a.toNat)
    (hs : isSound a.toNat = false) : s.quiet a v = { s with mem := Memory.write s.mem a.toNat v } := by
  unfold State.quiet
  rw [s.place_high (by omega), ramPlace_own (by omega)]
  simp only [State.cartSelect_high _ v (show 0xC000 ≤ a.toNat by omega)]
  simp [State.placeWrite, State.ramWrite, hs]

/-! ### What a store leaves alone -/

@[simp] theorem State.ramWrite_cpu (s : State) (k : Nat) (v : Byte) : (s.ramWrite k v).cpu = s.cpu := by
  unfold State.ramWrite; split <;> rfl
@[simp] theorem State.placeWrite_cpu (s : State) (p : Place) (v : Byte) : (s.placeWrite p v).cpu = s.cpu := by
  unfold State.placeWrite; split
  · split <;> rfl
  · simp
  · rfl
@[simp] theorem State.quiet_cpu (s : State) (a : Word) (v : Byte) : (s.quiet a v).cpu = s.cpu := by
  simp [State.quiet]
@[simp] theorem State.ramWrite_bios (s : State) (k : Nat) (v : Byte) : (s.ramWrite k v).bios = s.bios := by
  unfold State.ramWrite; split <;> rfl
@[simp] theorem State.placeWrite_bios (s : State) (p : Place) (v : Byte) : (s.placeWrite p v).bios = s.bios := by
  unfold State.placeWrite; split
  · split <;> rfl
  · simp
  · rfl
@[simp] theorem State.quiet_bios (s : State) (a : Word) (v : Byte) : (s.quiet a v).bios = s.bios := by
  simp [State.quiet]
@[simp] theorem State.ramWrite_biosMapped (s : State) (k : Nat) (v : Byte) : (s.ramWrite k v).biosMapped = s.biosMapped := by
  unfold State.ramWrite; split <;> rfl
@[simp] theorem State.placeWrite_biosMapped (s : State) (p : Place) (v : Byte) : (s.placeWrite p v).biosMapped = s.biosMapped := by
  unfold State.placeWrite; split
  · split <;> rfl
  · simp
  · rfl
@[simp] theorem State.quiet_biosMapped (s : State) (a : Word) (v : Byte) : (s.quiet a v).biosMapped = s.biosMapped := by
  simp [State.quiet]
@[simp] theorem State.ramWrite_dmaQueue (s : State) (k : Nat) (v : Byte) : (s.ramWrite k v).dmaQueue = s.dmaQueue := by
  unfold State.ramWrite; split <;> rfl
@[simp] theorem State.placeWrite_dmaQueue (s : State) (p : Place) (v : Byte) : (s.placeWrite p v).dmaQueue = s.dmaQueue := by
  unfold State.placeWrite; split
  · split <;> rfl
  · simp
  · rfl
@[simp] theorem State.quiet_dmaQueue (s : State) (a : Word) (v : Byte) : (s.quiet a v).dmaQueue = s.dmaQueue := by
  simp [State.quiet]
@[simp] theorem State.ramWrite_timer (s : State) (k : Nat) (v : Byte) : (s.ramWrite k v).timer = s.timer := by
  unfold State.ramWrite; split <;> rfl
@[simp] theorem State.placeWrite_timer (s : State) (p : Place) (v : Byte) : (s.placeWrite p v).timer = s.timer := by
  unfold State.placeWrite; split
  · split <;> rfl
  · simp
  · rfl
@[simp] theorem State.quiet_timer (s : State) (a : Word) (v : Byte) : (s.quiet a v).timer = s.timer := by
  simp [State.quiet]
@[simp] theorem State.ramWrite_ppu (s : State) (k : Nat) (v : Byte) : (s.ramWrite k v).ppu = s.ppu := by
  unfold State.ramWrite; split <;> rfl
@[simp] theorem State.placeWrite_ppu (s : State) (p : Place) (v : Byte) : (s.placeWrite p v).ppu = s.ppu := by
  unfold State.placeWrite; split
  · split <;> rfl
  · simp
  · rfl
@[simp] theorem State.quiet_ppu (s : State) (a : Word) (v : Byte) : (s.quiet a v).ppu = s.ppu := by
  simp [State.quiet]
@[simp] theorem State.ramWrite_debugOut (s : State) (k : Nat) (v : Byte) : (s.ramWrite k v).debugOut = s.debugOut := by
  unfold State.ramWrite; split <;> rfl
@[simp] theorem State.placeWrite_debugOut (s : State) (p : Place) (v : Byte) : (s.placeWrite p v).debugOut = s.debugOut := by
  unfold State.placeWrite; split
  · split <;> rfl
  · simp
  · rfl
@[simp] theorem State.quiet_debugOut (s : State) (a : Word) (v : Byte) : (s.quiet a v).debugOut = s.debugOut := by
  simp [State.quiet]
@[simp] theorem State.ramWrite_mbcReports (s : State) (k : Nat) (v : Byte) : (s.ramWrite k v).mbcReports = s.mbcReports := by
  unfold State.ramWrite; split <;> rfl
@[simp] theorem State.placeWrite_mbcReports (s : State) (p : Place) (v : Byte) : (s.placeWrite p v).mbcReports = s.mbcReports := by
  unfold State.placeWrite; split
  · split <;> rfl
  · simp
  · rfl
@[simp] theorem State.quiet_mbcReports (s : State) (a : Word) (v : Byte) : (s.quiet a v).mbcReports = s.mbcReports := by
  simp [State.quiet]
@[simp] theorem State.ramWrite_clock (s : State) (k : Nat) (v : Byte) : (s.ramWrite k v).clock = s.clock := by
  unfold State.ramWrite; split <;> rfl
@[simp] theorem State.placeWrite_clock (s : State) (p : Place) (v : Byte) : (s.placeWrite p v).clock = s.clock := by
  unfold State.placeWrite; split
  · split <;> rfl
  · simp
  · rfl
@[simp] theorem State.quiet_clock (s : State) (a : Word) (v : Byte) : (s.quiet a v).clock = s.clock := by
  simp [State.quiet]
@[simp] theorem State.ramWrite_apuRuns (s : State) (k : Nat) (v : Byte) : (s.ramWrite k v).apuRuns = s.apuRuns := by
  unfold State.ramWrite; split <;> rfl
@[simp] theorem State.placeWrite_apuRuns (s : State) (p : Place) (v : Byte) : (s.placeWrite p v).apuRuns = s.apuRuns := by
  unfold State.placeWrite; split
  · split <;> rfl
  · simp
  · rfl
@[simp] theorem State.quiet_apuRuns (s : State) (a : Word) (v : Byte) : (s.quiet a v).apuRuns = s.apuRuns := by
  simp [State.quiet]
@[simp] theorem State.ramWrite_params (s : State) (k : Nat) (v : Byte) : (s.ramWrite k v).params = s.params := by
  unfold State.ramWrite; split <;> rfl
@[simp] theorem State.placeWrite_params (s : State) (p : Place) (v : Byte) : (s.placeWrite p v).params = s.params := by
  unfold State.placeWrite; split
  · split <;> rfl
  · simp
  · rfl
@[simp] theorem State.quiet_params (s : State) (a : Word) (v : Byte) : (s.quiet a v).params = s.params := by
  simp [State.quiet]
@[simp] theorem State.ramWrite_hostInput (s : State) (k : Nat) (v : Byte) : (s.ramWrite k v).hostInput = s.hostInput := by
  unfold State.ramWrite; split <;> rfl
@[simp] theorem State.placeWrite_hostInput (s : State) (p : Place) (v : Byte) : (s.placeWrite p v).hostInput = s.hostInput := by
  unfold State.placeWrite; split
  · split <;> rfl
  · simp
  · rfl
@[simp] theorem State.quiet_hostInput (s : State) (a : Word) (v : Byte) : (s.quiet a v).hostInput = s.hostInput := by
  simp [State.quiet]
@[simp] theorem State.ramWrite_shelf (s : State) (k : Nat) (v : Byte) : (s.ramWrite k v).shelf = s.shelf := by
  unfold State.ramWrite; split <;> rfl
@[simp] theorem State.placeWrite_shelf (s : State) (p : Place) (v : Byte) : (s.placeWrite p v).shelf = s.shelf := by
  unfold State.placeWrite; split
  · split <;> rfl
  · simp
  · rfl
@[simp] theorem State.quiet_shelf (s : State) (a : Word) (v : Byte) : (s.quiet a v).shelf = s.shelf := by
  simp [State.quiet]

/-! ### The canonical form is kept -/

theorem State.MemoryInv.of_eq {s t : State} (h : s.MemoryInv) (hm : t.mem = s.mem) (hb : t.bios = s.bios)
    (hc : t.cart = s.cart) (hi : t.hostInput = s.hostInput)
    (hs : t.shelf = s.shelf) : t.MemoryInv :=
  ⟨hm ▸ h.mem, hb ▸ h.bios, fun c e => h.cart c (hc ▸ e), hi ▸ h.input, hs ▸ h.shelf⟩

theorem State.MemoryInv.ramWrite {s : State} (h : s.MemoryInv) (k : Nat) (v : Byte) :
    (s.ramWrite k v).MemoryInv := by
  unfold State.ramWrite
  split
  · exact h.of_eq rfl rfl rfl rfl rfl
  · exact ⟨Memory.wf_write k v h.mem, h.bios, h.cart, h.input, h.shelf⟩

theorem State.MemoryInv.placeWrite {s : State} (h : s.MemoryInv) (p : Place) (v : Byte) :
    (s.placeWrite p v).MemoryInv := by
  unfold State.placeWrite
  split
  · split
    · next c hc =>
      refine ⟨h.mem, h.bios, fun c' e => ?_, h.input, h.shelf⟩
      obtain ⟨hrom, hram⟩ := h.cart c hc
      cases e
      exact ⟨hrom, Memory.wf_write _ v hram⟩
    · exact h
  · exact h.ramWrite _ v
  · exact h

/-- A bank-select write moves no byte of the Cartridge. -/
@[simp] theorem Cartridge.select_rom (c : Cartridge) (a : Nat) (v : Byte) : (c.select a v).rom = c.rom := by
  unfold Cartridge.select; repeat' split
  all_goals rfl
@[simp] theorem Cartridge.select_ram (c : Cartridge) (a : Nat) (v : Byte) : (c.select a v).ram = c.ram := by
  unfold Cartridge.select; repeat' split
  all_goals rfl
@[simp] theorem Cartridge.select_kind (c : Cartridge) (a : Nat) (v : Byte) : (c.select a v).kind = c.kind := by
  unfold Cartridge.select; repeat' split
  all_goals rfl
@[simp] theorem Cartridge.select_romLength (c : Cartridge) (a : Nat) (v : Byte) :
    (c.select a v).romLength = c.romLength := by
  unfold Cartridge.select; repeat' split
  all_goals rfl

/-- What the Cartridge can be after its own subscribers saw a write. -/
theorem State.cartSelect_cases (s : State) (a : Nat) (v : Byte) :
    s.cartSelect a v = s.cart ∨ ∃ c, s.cart = some c ∧ s.cartSelect a v = some (c.select a v) := by
  unfold State.cartSelect
  split
  · cases h : s.cart with
    | none => exact .inl rfl
    | some c => exact .inr ⟨c, rfl, rfl⟩
  · exact .inl rfl

theorem State.MemoryInv.quiet {s : State} (h : s.MemoryInv) (a : Word) (v : Byte) : (s.quiet a v).MemoryInv := by
  have h' := h.placeWrite (s.place a) v
  unfold State.quiet
  refine ⟨h'.mem, h'.bios, fun c e => ?_, h'.input, h'.shelf⟩
  rcases (s.placeWrite (s.place a) v).cartSelect_cases a.toNat v with hs | ⟨c', hc', hs⟩
  · exact h'.cart c (hs ▸ e)
  · have e' : some (c'.select a.toNat v) = some c := hs ▸ e
    cases e'
    simpa using h'.cart c' hc'

/-! ### The registers as bytes of `mem` -/

@[simp] theorem State.read_FF01 (s : State) : s.read 0xFF01#16 = Memory.read s.mem 0xFF01 := s.read_register (by decide) (by decide)
@[simp] theorem State.read_FF04 (s : State) : s.read 0xFF04#16 = Memory.read s.mem 0xFF04 := s.read_register (by decide) (by decide)
@[simp] theorem State.read_FF05 (s : State) : s.read 0xFF05#16 = Memory.read s.mem 0xFF05 := s.read_register (by decide) (by decide)
@[simp] theorem State.read_FF06 (s : State) : s.read 0xFF06#16 = Memory.read s.mem 0xFF06 := s.read_register (by decide) (by decide)
@[simp] theorem State.read_FF07 (s : State) : s.read 0xFF07#16 = Memory.read s.mem 0xFF07 := s.read_register (by decide) (by decide)
@[simp] theorem State.read_FF0F (s : State) : s.read 0xFF0F#16 = Memory.read s.mem 0xFF0F := s.read_register (by decide) (by decide)
@[simp] theorem State.read_FF40 (s : State) : s.read 0xFF40#16 = Memory.read s.mem 0xFF40 := s.read_register (by decide) (by decide)
@[simp] theorem State.read_FF41 (s : State) : s.read 0xFF41#16 = Memory.read s.mem 0xFF41 := s.read_register (by decide) (by decide)
@[simp] theorem State.read_FF42 (s : State) : s.read 0xFF42#16 = Memory.read s.mem 0xFF42 := s.read_register (by decide) (by decide)
@[simp] theorem State.read_FF43 (s : State) : s.read 0xFF43#16 = Memory.read s.mem 0xFF43 := s.read_register (by decide) (by decide)
@[simp] theorem State.read_FF45 (s : State) : s.read 0xFF45#16 = Memory.read s.mem 0xFF45 := s.read_register (by decide) (by decide)
@[simp] theorem State.read_FF47 (s : State) : s.read 0xFF47#16 = Memory.read s.mem 0xFF47 := s.read_register (by decide) (by decide)
@[simp] theorem State.read_FF48 (s : State) : s.read 0xFF48#16 = Memory.read s.mem 0xFF48 := s.read_register (by decide) (by decide)
@[simp] theorem State.read_FF49 (s : State) : s.read 0xFF49#16 = Memory.read s.mem 0xFF49 := s.read_register (by decide) (by decide)
@[simp] theorem State.read_FF4A (s : State) : s.read 0xFF4A#16 = Memory.read s.mem 0xFF4A := s.read_register (by decide) (by decide)
@[simp] theorem State.read_FF4B (s : State) : s.read 0xFF4B#16 = Memory.read s.mem 0xFF4B := s.read_register (by decide) (by decide)
@[simp] theorem State.read_FFFF (s : State) : s.read 0xFFFF#16 = Memory.read s.mem 0xFFFF := s.read_register (by decide) (by decide)
@[simp] theorem State.quiet_FF00 (s : State) (v : Byte) :
    s.quiet 0xFF00#16 v = { s with mem := Memory.write s.mem 0xFF00 v } := s.quiet_register v (by decide) (by decide)
@[simp] theorem State.quiet_FF04 (s : State) (v : Byte) :
    s.quiet 0xFF04#16 v = { s with mem := Memory.write s.mem 0xFF04 v } := s.quiet_register v (by decide) (by decide)
@[simp] theorem State.quiet_FF05 (s : State) (v : Byte) :
    s.quiet 0xFF05#16 v = { s with mem := Memory.write s.mem 0xFF05 v } := s.quiet_register v (by decide) (by decide)
@[simp] theorem State.quiet_FF0F (s : State) (v : Byte) :
    s.quiet 0xFF0F#16 v = { s with mem := Memory.write s.mem 0xFF0F v } := s.quiet_register v (by decide) (by decide)
@[simp] theorem State.quiet_FF41 (s : State) (v : Byte) :
    s.quiet 0xFF41#16 v = { s with mem := Memory.write s.mem 0xFF41 v } := s.quiet_register v (by decide) (by decide)
@[simp] theorem State.quiet_FF44 (s : State) (v : Byte) :
    s.quiet 0xFF44#16 v = { s with mem := Memory.write s.mem 0xFF44 v } := s.quiet_register v (by decide) (by decide)

/-! ### The PPU's and the interrupt controller's own writes (R324, R353, R354, R362) -/

theorem State.request_eq (s : State) (mask : Byte) :
    s.request mask = { s with mem := Memory.write s.mem 0xFF0F (Memory.read s.mem 0xFF0F ||| mask) } := by
  simp [State.request]

theorem State.setMode_eq (s : State) (m : PpuMode) :
    s.setMode m = { s with
      mem := Memory.write s.mem 0xFF41
        ((Memory.read s.mem 0xFF41 &&& 0xF8) ||| { s.ppu with mode := m }.statBits)
      ppu := { s.ppu with mode := m } } := by
  simp [State.setMode]

theorem State.statRequestIf_eq (s : State) (b : Nat) :
    s.statRequestIf b = { s with
      mem := if (Memory.read s.mem 0xFF41).getLsbD b = true
        then Memory.write s.mem 0xFF0F (Memory.read s.mem 0xFF0F ||| 0x02) else s.mem } := by
  unfold State.statRequestIf
  rw [State.request_eq, show s.read 0xFF41 = Memory.read s.mem 0xFF41 from s.read_FF41]
  split <;> rfl

theorem State.coincidenceUpdate_eq (s : State) :
    s.coincidenceUpdate =
      (fun u : State => if s.ppu.ly = Memory.read s.mem 0xFF45 then u.statRequestIf 6 else u)
        { s with
          mem := Memory.write s.mem 0xFF41 ((Memory.read s.mem 0xFF41 &&& 0xFB) |||
            (bit8 (s.ppu.ly == Memory.read s.mem 0xFF45) <<< 2))
          ppu := { s.ppu with coincidence := s.ppu.ly == Memory.read s.mem 0xFF45 } } := by
  simp [State.coincidenceUpdate]

/-- A store at a register changes `mem` at that address alone; these writes change no other part of the state. -/
structure State.OnlyRegisters (s t : State) : Prop where
  rest : t = { s with
    mem := t.mem
    ppu := { s.ppu with ly := t.ppu.ly, mode := t.ppu.mode, coincidence := t.ppu.coincidence } }
  bytes : ∀ k, k ≠ 0xFF0F → k ≠ 0xFF41 → k ≠ 0xFF44 → Memory.read t.mem k = Memory.read s.mem k
  wf : Memory.wf s.mem = true → Memory.wf t.mem = true

theorem State.OnlyRegisters.refl (s : State) : s.OnlyRegisters s := ⟨rfl, fun _ _ _ _ => rfl, id⟩

theorem State.OnlyRegisters.trans {s t u : State} (h : s.OnlyRegisters t) (k : t.OnlyRegisters u) :
    s.OnlyRegisters u := by
  refine ⟨?_, fun a h1 h2 h3 => (k.bytes a h1 h2 h3).trans (h.bytes a h1 h2 h3), k.wf ∘ h.wf⟩
  rw [k.rest, h.rest]

theorem State.onlyRegisters_request (s : State) (m : Byte) : s.OnlyRegisters (s.request m) := by
  rw [State.request_eq]
  exact ⟨rfl, fun k h _ _ => Memory.read_write_other _ _ h, Memory.wf_write _ _⟩

theorem State.onlyRegisters_setMode (s : State) (m : PpuMode) : s.OnlyRegisters (s.setMode m) := by
  rw [State.setMode_eq]
  exact ⟨rfl, fun k _ h _ => Memory.read_write_other _ _ h, Memory.wf_write _ _⟩

theorem State.onlyRegisters_statRequestIf (s : State) (b : Nat) : s.OnlyRegisters (s.statRequestIf b) := by
  unfold State.statRequestIf
  split
  · exact s.onlyRegisters_request _
  · exact .refl s

theorem State.onlyRegisters_stat (s : State) (v : Byte) (c : Bool) :
    s.OnlyRegisters
      { s with mem := Memory.write s.mem 0xFF41 v, ppu := { s.ppu with coincidence := c } } :=
  ⟨rfl, fun _ _ h _ => Memory.read_write_other _ _ h, Memory.wf_write _ _⟩

theorem State.onlyRegisters_coincidenceUpdate (s : State) : s.OnlyRegisters s.coincidenceUpdate := by
  rw [State.coincidenceUpdate_eq]
  dsimp only
  split
  · exact (s.onlyRegisters_stat _ _).trans (State.onlyRegisters_statRequestIf _ _)
  · exact s.onlyRegisters_stat _ _

theorem State.onlyRegisters_setLy (s : State) (v : Byte) : s.OnlyRegisters (s.setLy v) := by
  refine .trans (t := { s with mem := Memory.write s.mem 0xFF44 v, ppu := { s.ppu with ly := v } }) ?_ ?_
  · exact ⟨rfl, fun k _ _ h => Memory.read_write_other _ _ h, Memory.wf_write _ _⟩
  · simpa [State.setLy] using State.onlyRegisters_coincidenceUpdate _

/-! ### Which reads a change of `mem` can show in -/

/-- A place above work RAM is named by its own address alone. -/
theorem State.place_ram_own {s : State} {b : Word} {k : Nat} (h : s.place b = .ram k) (hk : 0xD000 ≤ k) :
    b.toNat = k := by
  have hr : ramPlace b.toNat = .ram k → b.toNat = k := by
    intro e
    unfold ramPlace at e
    injection e with e
    split at e <;> omega
  rw [State.place_eq] at h
  split at h
  · cases h
  · split at h
    · split at h
      · unfold Cartridge.place at h
        split at h
        · cases h
        · split at h <;> cases h
      · exact hr h
    · exact hr h

theorem State.place_congr {s t : State} (hm : t.biosMapped = s.biosMapped) (hc : t.cart = s.cart) (b : Word) :
    t.place b = s.place b := by
  rw [State.place_eq, State.place_eq, hm, hc]

/-- A read depends on the memories alone; and a change of `mem` above work RAM shows at that address only. -/
theorem State.read_congr {s t : State} {b : Word} (hb : t.bios = s.bios) (hm : t.biosMapped = s.biosMapped)
    (hc : t.cart = s.cart) (hs : t.sound = s.sound)
    (hr : ∀ k, (0xD000 ≤ k → k = b.toNat) → Memory.read t.mem k = Memory.read s.mem k) : t.read b = s.read b := by
  unfold State.read
  rw [State.place_congr hm hc]
  cases hp : s.place b <;> simp only [State.placeRead, hb, hc]
  unfold State.ramRead
  rw [hs, hr _ fun h => (State.place_ram_own hp h).symm]

/-- When the Cartridge owns an address. -/
theorem State.resolve_cartridge (s : State) (a : Word) :
    s.resolve a.toNat = some .cartridge ↔
      ¬ (s.biosMapped = true ∧ a.toNat ≤ 0xFF) ∧ s.cart.any (fun c => c.contains a.toNat) = true := by
  obtain ⟨r, hr, h1, h2, _⟩ := resolve_fixed s a.isLt
  rw [resolve_eq]
  by_cases h : s.biosMapped = true ∧ a.toNat ≤ 0xFF
  · rw [if_pos h]; exact ⟨fun e => (nomatch e), fun e => absurd h e.1⟩
  · rw [if_neg h]
    split
    · next e => exact ⟨fun _ => ⟨h, e⟩, fun _ => rfl⟩
    · next e => rw [hr]; exact ⟨fun e' => absurd (Option.some.inj e') h2, fun e' => absurd e'.2 e⟩

/-- Every address has an owner (R72). -/
theorem State.resolve_some (s : State) (a : Word) : ∃ r, s.resolve a.toNat = some r := by
  obtain ⟨r, hr, -⟩ := resolve_fixed s a.isLt
  rw [resolve_eq]
  split
  · exact ⟨_, rfl⟩
  · split
    · exact ⟨_, rfl⟩
    · exact ⟨r, hr⟩

/-- The only write that ends the run is one into an MBC1's bank registers, under `MBC1_BANK_OOR = fault` (R92). -/
theorem State.writeFault_some {s : State} {a : Word} {v : Byte} {x : Fault} :
    s.writeFault a v = some x ↔
      s.params.bankOor = .fault ∧ s.resolve a.toNat = some .cartridge ∧
        ∃ c, s.cart = some c ∧ (c.select a.toNat v).outOfRange a.toNat = true ∧
          x = .bankOutOfRange (c.select a.toNat v) := by
  obtain ⟨r, hr⟩ := s.resolve_some a
  unfold State.writeFault
  rw [hr]
  by_cases h : r = .cartridge
  · subst h
    cases s.cart with
    | none => exact ⟨fun e => (nomatch e), fun ⟨_, _, _, e, _⟩ => (nomatch e)⟩
    | some c =>
      dsimp only
      by_cases ho : s.params.bankOor = .fault ∧ (c.select a.toNat v).outOfRange a.toNat = true
      · rw [if_pos ho]
        exact ⟨fun e => ⟨ho.1, rfl, c, rfl, ho.2, (Option.some.inj e).symm⟩,
          fun ⟨_, _, c', e, _, hx⟩ => by cases e; rw [hx]⟩
      · rw [if_neg ho]
        exact ⟨fun e => (nomatch e), fun ⟨hp, _, c', e, ho', _⟩ => by cases e; exact absurd ⟨hp, ho'⟩ ho⟩
  · refine ⟨fun e => ?_, fun e => absurd (Option.some.inj e.2.1) h⟩
    cases r <;> contradiction

theorem State.writeFault_high (s : State) {a : Word} (v : Byte) (h : 0x8000 ≤ a.toNat) : s.writeFault a v = none := by
  cases e : s.writeFault a v with
  | none => rfl
  | some x =>
    obtain ⟨-, -, c, -, hc, -⟩ := State.writeFault_some.mp e
    unfold Cartridge.outOfRange at hc
    split at hc
    · simp only [Bool.and_eq_true, decide_eq_true_eq] at hc; omega
    · cases hc

end Sys2Proof.Machine
end

