-- ==== Sys2Proof/Laws/Costs.lean ====
section
/-! SUPPORT. The cost table and the cut into Commands: what they are with the spec's own table and D4's cut, which row
of a parameter an instruction finds, and that settling a Command's cost changes nothing else. -/

namespace Sys2Proof.Machine

variable {s : State}

/-! ### The spec's table and D4's cut -/

theorem State.costRow_nil (h : s.params.costs = []) (i : Instr) : s.costRow i = none := by rw [costRow, h]; rfl

theorem State.firstCost_nil (h : s.params.costs = []) (i : Instr) : s.firstCost i = i.cost := by
  rw [firstCost, costRow_nil h]

theorem State.takenCost_nil (h : s.params.costs = []) (i : Instr) : s.takenCost i = i.takenExtra := by
  rw [takenCost, costRow_nil h]

theorem State.cutRow_nil (h : s.params.partition = []) (i : Instr) : s.cutRow i = none := by
  rw [cutRow, h]; split <;> rfl

theorem State.lead_nil (h : s.params.partition = []) (c : Command) : s.lead c = [] := by
  rw [lead, cutRow_nil h]

theorem State.cut_nil (h : s.params.partition = []) (c : Command) : s.cut c = c := by rw [cut, lead_nil h]; rfl

/-- The prefix byte and the unmapped bytes are never cut. -/
theorem State.lead_of_cost_zero {i : Instr} (h : i.cost = 0) : s.lead (.exec i) = [] := by
  rw [lead, cutRow, if_pos (show (Command.exec i).instr.cost = 0 from h)]

theorem State.commandCost_nil (hc : s.params.costs = []) (hp : s.params.partition = []) (c : Command) :
    s.commandCost c = c.cost := by
  cases c <;> simp only [commandCost, Command.cost, lead_nil hp, firstCost_nil hc, takenCost_nil hc, List.sum_nil,
    Nat.sub_zero]

/-! ### Settling -/

theorem State.settle_of_cost {c : Command} (h : s.commandCost c = c.cost) : s.settle c = s := by
  rw [settle, h, Int.add_sub_cancel]

theorem State.settle_nil (hc : s.params.costs = []) (hp : s.params.partition = []) (c : Command) : s.settle c = s :=
  settle_of_cost (commandCost_nil hc hp c)

@[simp] theorem State.settle_after (n : Nat) (c : Command) : s.settle (.after n c) = s := settle_of_cost rfl

/-- A cut Command is the Command itself or begins with a micro-op that does nothing. -/
theorem State.cut_cases (c : Command) :
    (s.lead c = [] ∧ s.cut c = c) ∨ ∃ n l, s.lead c = n :: l ∧ s.cut c = .after n (l.foldr .after c) := by
  rw [cut]
  cases h : s.lead c with
  | nil => exact .inl ⟨rfl, rfl⟩
  | cons n l => exact .inr ⟨n, l, rfl, rfl⟩

/-! ### The row of an instruction -/

/-- An instruction's row by its bytes. -/
theorem Instr.row_of_encode {i : Instr} {prefixed : Bool} {op : Byte}
    (h : if prefixed = true then encode i = [0xCB, op] else op ≠ 0xCB ∧ (encode i).head? = some op) :
    Instr.row i = (prefixed, op) := by
  unfold Instr.row
  cases prefixed with
  | true =>
    rw [if_pos rfl] at h
    rw [h]
    rfl
  | false =>
    rw [if_neg Bool.false_ne_true] at h
    obtain ⟨hb, h⟩ := h
    cases e : encode i with
    | nil => rw [e] at h; cases h
    | cons b rest =>
      rw [e] at h
      cases h
      cases rest with
      | nil => rfl
      | cons _ _ => exact if_neg hb

end Sys2Proof.Machine
end

