-- ==== Sys2Proof/Laws/Stores.lean ====
section
/-! SUPPORT. What a published write can change: the MMU's subscribers one by one, what none of them touches, and that a
published write keeps the canonical form. -/

namespace Sys2Proof.Machine

/-- Everything a published write's subscribers can do (R95): one case per subscriber. -/
theorem State.subscribers_cases (s : State) (a : Word) (v : Byte) :
    s.subscribers a v = s ∨
    (a = 0xFF50 ∧ v ≠ 0 ∧ s.subscribers a v = { s with biosMapped := false }) ∨
    (a = 0xFF46 ∧ s.subscribers a v = s.startDma v) ∨
    (a = 0xFF04 ∧ s.subscribers a v = s.resetDivider) ∨
    (a = 0xFF02 ∧ v = 0x81 ∧ s.subscribers a v = s.serialOut) ∨
    (a = 0xFF40 ∧ s.subscribers a v = s.lcdControl v) ∨
    (a = 0xFF41 ∧ s.subscribers a v = s.statWrite v) ∨
    (a = 0xFF45 ∧ s.subscribers a v = s.coincidenceUpdate) := by
  unfold State.subscribers
  split
  · split
    · exact .inl rfl
    · exact .inr (.inl ⟨‹_›, ‹_›, rfl⟩)
  split
  · exact .inr (.inr (.inl ⟨‹_›, rfl⟩))
  split
  · exact .inr (.inr (.inr (.inl ⟨‹_›, rfl⟩)))
  split
  · split
    · exact .inr (.inr (.inr (.inr (.inl ⟨‹_›, ‹_›, rfl⟩))))
    · exact .inl rfl
  split
  · exact .inr (.inr (.inr (.inr (.inr (.inl ⟨‹_›, rfl⟩)))))
  split
  · exact .inr (.inr (.inr (.inr (.inr (.inr (.inl ⟨‹_›, rfl⟩))))))
  split
  · exact .inr (.inr (.inr (.inr (.inr (.inr (.inr ⟨‹_›, rfl⟩))))))
  · exact .inl rfl

/-- `LCDC` switches the PPU off, on, or neither (R365). -/
theorem State.lcdControl_cases (s : State) (v : Byte) :
    (s.ppu.lcdOn = true ∧ v.getLsbD 7 = false ∧ s.lcdControl v =
      ((State.setMode { s with ppu := { s.ppu with lcdOn := false, credit := 0, nextStep := .oamScan, ly := 0 } }
        .hBlank).setLy 0)) ∨
    (s.ppu.lcdOn = false ∧ v.getLsbD 7 = true ∧ s.lcdControl v =
      { s with ppu := { s.ppu with lcdOn := true, credit := 0, nextStep := .oamScan } }) ∨
    (s.ppu.lcdOn = v.getLsbD 7 ∧ s.lcdControl v = s) := by
  unfold State.lcdControl
  cases h : s.ppu.lcdOn <;> cases h' : v.getLsbD 7 <;> simp

theorem State.OnlyRegisters.cpu {s t : State} (h : s.OnlyRegisters t) : t.cpu = s.cpu := by
  rw [h.rest]
theorem State.OnlyRegisters.bios {s t : State} (h : s.OnlyRegisters t) : t.bios = s.bios := by
  rw [h.rest]
theorem State.OnlyRegisters.biosMapped {s t : State} (h : s.OnlyRegisters t) : t.biosMapped = s.biosMapped := by
  rw [h.rest]
theorem State.OnlyRegisters.cart {s t : State} (h : s.OnlyRegisters t) : t.cart = s.cart := by
  rw [h.rest]
theorem State.OnlyRegisters.sound {s t : State} (h : s.OnlyRegisters t) : t.sound = s.sound := by
  rw [h.rest]
theorem State.OnlyRegisters.dmaQueue {s t : State} (h : s.OnlyRegisters t) : t.dmaQueue = s.dmaQueue := by
  rw [h.rest]
theorem State.OnlyRegisters.timer {s t : State} (h : s.OnlyRegisters t) : t.timer = s.timer := by
  rw [h.rest]
theorem State.OnlyRegisters.debugOut {s t : State} (h : s.OnlyRegisters t) : t.debugOut = s.debugOut := by
  rw [h.rest]
theorem State.OnlyRegisters.mbcReports {s t : State} (h : s.OnlyRegisters t) : t.mbcReports = s.mbcReports := by
  rw [h.rest]
theorem State.OnlyRegisters.clock {s t : State} (h : s.OnlyRegisters t) : t.clock = s.clock := by
  rw [h.rest]
theorem State.OnlyRegisters.apuRuns {s t : State} (h : s.OnlyRegisters t) : t.apuRuns = s.apuRuns := by
  rw [h.rest]
theorem State.OnlyRegisters.params {s t : State} (h : s.OnlyRegisters t) : t.params = s.params := by
  rw [h.rest]
theorem State.OnlyRegisters.hostInput {s t : State} (h : s.OnlyRegisters t) : t.hostInput = s.hostInput := by
  rw [h.rest]
theorem State.OnlyRegisters.shelf {s t : State} (h : s.OnlyRegisters t) : t.shelf = s.shelf := by
  rw [h.rest]
theorem State.OnlyRegisters.lcdOn {s t : State} (h : s.OnlyRegisters t) : t.ppu.lcdOn = s.ppu.lcdOn := by rw [h.rest]
theorem State.OnlyRegisters.credit {s t : State} (h : s.OnlyRegisters t) : t.ppu.credit = s.ppu.credit := by rw [h.rest]
theorem State.OnlyRegisters.nextStep {s t : State} (h : s.OnlyRegisters t) : t.ppu.nextStep = s.ppu.nextStep := by
  rw [h.rest]
theorem State.OnlyRegisters.bitmap {s t : State} (h : s.OnlyRegisters t) : t.ppu.bitmap = s.ppu.bitmap := by
  rw [h.rest]
theorem State.OnlyRegisters.framesReady {s t : State} (h : s.OnlyRegisters t) :
    t.ppu.framesReady = s.ppu.framesReady := by rw [h.rest]

theorem State.OnlyRegisters.memoryInv {s t : State} (h : s.OnlyRegisters t) (m : s.MemoryInv) : t.MemoryInv :=
  ⟨h.wf m.mem, h.bios ▸ m.bios, fun c e => m.cart c (h.cart ▸ e), h.hostInput ▸ m.input,
    h.shelf ▸ m.shelf⟩

@[simp] theorem State.subscribers_cpu (s : State) (a : Word) (v : Byte) : (s.subscribers a v).cpu = s.cpu := by
  rcases s.subscribers_cases a v with h | ⟨-, -, h⟩ | ⟨-, h⟩ | ⟨-, h⟩ | ⟨-, -, h⟩ | ⟨-, h⟩ | ⟨-, h⟩ | ⟨-, h⟩ <;> rw [h]
  · rfl
  · simp [State.resetDivider]
  · rfl
  · rcases s.lcdControl_cases v with ⟨-, -, e⟩ | ⟨-, -, e⟩ | ⟨-, e⟩ <;> rw [e]
    rw [(State.onlyRegisters_setLy _ _).cpu, (State.onlyRegisters_setMode _ _).cpu]
  · simp [State.statWrite]
  · exact (State.onlyRegisters_coincidenceUpdate _).cpu
@[simp] theorem State.subscribers_bios (s : State) (a : Word) (v : Byte) : (s.subscribers a v).bios = s.bios := by
  rcases s.subscribers_cases a v with h | ⟨-, -, h⟩ | ⟨-, h⟩ | ⟨-, h⟩ | ⟨-, -, h⟩ | ⟨-, h⟩ | ⟨-, h⟩ | ⟨-, h⟩ <;> rw [h]
  · rfl
  · simp [State.resetDivider]
  · rfl
  · rcases s.lcdControl_cases v with ⟨-, -, e⟩ | ⟨-, -, e⟩ | ⟨-, e⟩ <;> rw [e]
    rw [(State.onlyRegisters_setLy _ _).bios, (State.onlyRegisters_setMode _ _).bios]
  · simp [State.statWrite]
  · exact (State.onlyRegisters_coincidenceUpdate _).bios
@[simp] theorem State.subscribers_clock (s : State) (a : Word) (v : Byte) : (s.subscribers a v).clock = s.clock := by
  rcases s.subscribers_cases a v with h | ⟨-, -, h⟩ | ⟨-, h⟩ | ⟨-, h⟩ | ⟨-, -, h⟩ | ⟨-, h⟩ | ⟨-, h⟩ | ⟨-, h⟩ <;> rw [h]
  · rfl
  · simp [State.resetDivider]
  · rfl
  · rcases s.lcdControl_cases v with ⟨-, -, e⟩ | ⟨-, -, e⟩ | ⟨-, e⟩ <;> rw [e]
    rw [(State.onlyRegisters_setLy _ _).clock, (State.onlyRegisters_setMode _ _).clock]
  · simp [State.statWrite]
  · exact (State.onlyRegisters_coincidenceUpdate _).clock
@[simp] theorem State.subscribers_apuRuns (s : State) (a : Word) (v : Byte) : (s.subscribers a v).apuRuns = s.apuRuns := by
  rcases s.subscribers_cases a v with h | ⟨-, -, h⟩ | ⟨-, h⟩ | ⟨-, h⟩ | ⟨-, -, h⟩ | ⟨-, h⟩ | ⟨-, h⟩ | ⟨-, h⟩ <;> rw [h]
  · rfl
  · simp [State.resetDivider]
  · rfl
  · rcases s.lcdControl_cases v with ⟨-, -, e⟩ | ⟨-, -, e⟩ | ⟨-, e⟩ <;> rw [e]
    rw [(State.onlyRegisters_setLy _ _).apuRuns, (State.onlyRegisters_setMode _ _).apuRuns]
  · simp [State.statWrite]
  · exact (State.onlyRegisters_coincidenceUpdate _).apuRuns
@[simp] theorem State.subscribers_params (s : State) (a : Word) (v : Byte) : (s.subscribers a v).params = s.params := by
  rcases s.subscribers_cases a v with h | ⟨-, -, h⟩ | ⟨-, h⟩ | ⟨-, h⟩ | ⟨-, -, h⟩ | ⟨-, h⟩ | ⟨-, h⟩ | ⟨-, h⟩ <;> rw [h]
  · rfl
  · simp [State.resetDivider]
  · rfl
  · rcases s.lcdControl_cases v with ⟨-, -, e⟩ | ⟨-, -, e⟩ | ⟨-, e⟩ <;> rw [e]
    rw [(State.onlyRegisters_setLy _ _).params, (State.onlyRegisters_setMode _ _).params]
  · simp [State.statWrite]
  · exact (State.onlyRegisters_coincidenceUpdate _).params
@[simp] theorem State.subscribers_hostInput (s : State) (a : Word) (v : Byte) : (s.subscribers a v).hostInput = s.hostInput := by
  rcases s.subscribers_cases a v with h | ⟨-, -, h⟩ | ⟨-, h⟩ | ⟨-, h⟩ | ⟨-, -, h⟩ | ⟨-, h⟩ | ⟨-, h⟩ | ⟨-, h⟩ <;> rw [h]
  · rfl
  · simp [State.resetDivider]
  · rfl
  · rcases s.lcdControl_cases v with ⟨-, -, e⟩ | ⟨-, -, e⟩ | ⟨-, e⟩ <;> rw [e]
    rw [(State.onlyRegisters_setLy _ _).hostInput, (State.onlyRegisters_setMode _ _).hostInput]
  · simp [State.statWrite]
  · exact (State.onlyRegisters_coincidenceUpdate _).hostInput
@[simp] theorem State.subscribers_shelf (s : State) (a : Word) (v : Byte) : (s.subscribers a v).shelf = s.shelf := by
  rcases s.subscribers_cases a v with h | ⟨-, -, h⟩ | ⟨-, h⟩ | ⟨-, h⟩ | ⟨-, -, h⟩ | ⟨-, h⟩ | ⟨-, h⟩ | ⟨-, h⟩ <;> rw [h]
  · rfl
  · simp [State.resetDivider]
  · rfl
  · rcases s.lcdControl_cases v with ⟨-, -, e⟩ | ⟨-, -, e⟩ | ⟨-, e⟩ <;> rw [e]
    rw [(State.onlyRegisters_setLy _ _).shelf, (State.onlyRegisters_setMode _ _).shelf]
  · simp [State.statWrite]
  · exact (State.onlyRegisters_coincidenceUpdate _).shelf
@[simp] theorem State.subscribers_mbcReports (s : State) (a : Word) (v : Byte) : (s.subscribers a v).mbcReports = s.mbcReports := by
  rcases s.subscribers_cases a v with h | ⟨-, -, h⟩ | ⟨-, h⟩ | ⟨-, h⟩ | ⟨-, -, h⟩ | ⟨-, h⟩ | ⟨-, h⟩ | ⟨-, h⟩ <;> rw [h]
  · rfl
  · simp [State.resetDivider]
  · rfl
  · rcases s.lcdControl_cases v with ⟨-, -, e⟩ | ⟨-, -, e⟩ | ⟨-, e⟩ <;> rw [e]
    rw [(State.onlyRegisters_setLy _ _).mbcReports, (State.onlyRegisters_setMode _ _).mbcReports]
  · simp [State.statWrite]
  · exact (State.onlyRegisters_coincidenceUpdate _).mbcReports
@[simp] theorem State.subscribers_cart (s : State) (a : Word) (v : Byte) : (s.subscribers a v).cart = s.cart := by
  rcases s.subscribers_cases a v with h | ⟨-, -, h⟩ | ⟨-, h⟩ | ⟨-, h⟩ | ⟨-, -, h⟩ | ⟨-, h⟩ | ⟨-, h⟩ | ⟨-, h⟩ <;> rw [h]
  · rfl
  · simp [State.resetDivider]
  · rfl
  · rcases s.lcdControl_cases v with ⟨-, -, e⟩ | ⟨-, -, e⟩ | ⟨-, e⟩ <;> rw [e]
    rw [(State.onlyRegisters_setLy _ _).cart, (State.onlyRegisters_setMode _ _).cart]
  · simp [State.statWrite]
  · exact (State.onlyRegisters_coincidenceUpdate _).cart
@[simp] theorem State.subscribers_sound (s : State) (a : Word) (v : Byte) : (s.subscribers a v).sound = s.sound := by
  rcases s.subscribers_cases a v with h | ⟨-, -, h⟩ | ⟨-, h⟩ | ⟨-, h⟩ | ⟨-, -, h⟩ | ⟨-, h⟩ | ⟨-, h⟩ | ⟨-, h⟩ <;> rw [h]
  · rfl
  · simp [State.resetDivider]
  · rfl
  · rcases s.lcdControl_cases v with ⟨-, -, e⟩ | ⟨-, -, e⟩ | ⟨-, e⟩ <;> rw [e]
    rw [(State.onlyRegisters_setLy _ _).sound, (State.onlyRegisters_setMode _ _).sound]
  · simp [State.statWrite]
  · exact (State.onlyRegisters_coincidenceUpdate _).sound
@[simp] theorem State.written_cpu (s : State) (a : Word) (v : Byte) : (s.written a v).cpu = s.cpu := by
  simp [State.written]
@[simp] theorem State.written_bios (s : State) (a : Word) (v : Byte) : (s.written a v).bios = s.bios := by
  simp [State.written]
@[simp] theorem State.written_clock (s : State) (a : Word) (v : Byte) : (s.written a v).clock = s.clock := by
  simp [State.written]
@[simp] theorem State.written_apuRuns (s : State) (a : Word) (v : Byte) : (s.written a v).apuRuns = s.apuRuns := by
  simp [State.written]
@[simp] theorem State.written_params (s : State) (a : Word) (v : Byte) : (s.written a v).params = s.params := by
  simp [State.written]
@[simp] theorem State.written_hostInput (s : State) (a : Word) (v : Byte) : (s.written a v).hostInput = s.hostInput := by
  simp [State.written]
@[simp] theorem State.written_shelf (s : State) (a : Word) (v : Byte) : (s.written a v).shelf = s.shelf := by
  simp [State.written]
@[simp] theorem State.written_mbcReports (s : State) (a : Word) (v : Byte) : (s.written a v).mbcReports = s.mbcReports := by
  simp [State.written]

theorem State.MemoryInv.subscribers {s : State} (h : s.MemoryInv) (a : Word) (v : Byte) :
    (s.subscribers a v).MemoryInv := by
  rcases s.subscribers_cases a v with e | ⟨-, -, e⟩ | ⟨-, e⟩ | ⟨-, e⟩ | ⟨-, -, e⟩ | ⟨-, e⟩ | ⟨-, e⟩ | ⟨-, e⟩ <;> rw [e]
  · exact h
  · exact h.of_eq rfl rfl rfl rfl rfl
  · exact h.of_eq rfl rfl rfl rfl rfl
  · exact (h.quiet 0xFF04 0).of_eq rfl rfl rfl rfl rfl
  · exact h.of_eq rfl rfl rfl rfl rfl
  · rcases s.lcdControl_cases v with ⟨-, -, e⟩ | ⟨-, -, e⟩ | ⟨-, e⟩ <;> rw [e]
    · exact (State.onlyRegisters_setLy _ _).memoryInv ((State.onlyRegisters_setMode _ _).memoryInv
        (h.of_eq rfl rfl rfl rfl rfl))
    · exact h.of_eq rfl rfl rfl rfl rfl
    · exact h
  · exact h.quiet _ _
  · exact (State.onlyRegisters_coincidenceUpdate _).memoryInv h

/-- A published write keeps the canonical form. -/
theorem State.MemoryInv.written {s : State} (h : s.MemoryInv) (a : Word) (v : Byte) : (s.written a v).MemoryInv :=
  (h.quiet a v).subscribers a v

/-! ### Published writes -/

/-- Everything `writeByte` can answer. -/
theorem State.writeByte_next {s t : State} {a : Word} {v : Byte} :
    s.writeByte a v = .next t ↔ s.writeFault a v = none ∧ t = s.written a v := by
  unfold State.writeByte
  cases s.writeFault a v <;> simp [eq_comm]

theorem andThen_next {r : Result} {f : State → Result} {t : State} :
    andThen r f = .next t ↔ ∃ u, r = .next u ∧ f u = .next t := by
  cases r <;> simp [andThen]

/-- Everything a CPU turn can do to the rest of the machine: change the CPU's own registers, and make published
stores that do not end the run. -/
inductive State.Moves (s : State) : State → Prop where
  | refl : s.Moves s
  | cpu {t : State} (k : Cpu) (h : s.Moves t) : s.Moves { t with cpu := k }
  | store {t : State} (a : Word) (v : Byte) (h : s.Moves t) (ok : t.writeFault a v = none) : s.Moves (t.written a v)

theorem State.Moves.of_cpu {s t : State} (h : { s with cpu := t.cpu } = t) : s.Moves t :=
  h ▸ .cpu t.cpu .refl

theorem State.Moves.trans {s t u : State} (h : s.Moves t) (k : t.Moves u) : s.Moves u := by
  induction k with
  | refl => exact h
  | cpu k _ ih => exact .cpu k ih
  | store a v _ ok ih => exact .store a v ih ok

theorem State.Moves.writeByte {s t : State} {a : Word} {v : Byte} (h : s.writeByte a v = .next t) : s.Moves t := by
  obtain ⟨ok, rfl⟩ := State.writeByte_next.mp h
  exact .store a v .refl ok

theorem State.Moves.writeWord {s t : State} {a w : Word} (h : s.writeWord a w = .next t) : s.Moves t := by
  obtain ⟨u, h1, h2⟩ := andThen_next.mp h
  exact (Moves.writeByte h1).trans (Moves.writeByte h2)

theorem State.Moves.push16 {s t : State} {w : Word} (h : s.push16 w = .next t) : s.Moves t :=
  (State.Moves.of_cpu rfl).trans (Moves.writeWord h)

theorem State.Moves.takeInterrupt {s t : State} {i : Nat} (h : s.takeInterrupt i = .next t) : s.Moves t := by
  obtain ⟨u, h1, h2⟩ := andThen_next.mp h
  obtain ⟨x, h3, h4⟩ := andThen_next.mp h2
  cases h4
  exact ((Moves.push16 h1).trans (Moves.writeByte h3)).trans (.of_cpu rfl)

/-- What the moves leave alone: the devices' own state that no CPU store reaches. -/
theorem State.Moves.kept {s t : State} (h : s.Moves t) :
    t.bios = s.bios ∧ t.clock = s.clock ∧ t.apuRuns = s.apuRuns ∧ t.params = s.params ∧
      t.hostInput = s.hostInput ∧ t.mbcReports = s.mbcReports ∧ t.shelf = s.shelf := by
  induction h with
  | refl => simp
  | cpu k _ ih => exact ih
  | store a v _ _ ih => simpa using ih

theorem State.Moves.memoryInv {s t : State} (h : s.Moves t) (m : s.MemoryInv) : t.MemoryInv := by
  induction h with
  | refl => exact m
  | cpu k _ ih => exact ih.of_eq rfl rfl rfl rfl rfl
  | store a v _ _ ih => exact ih.written a v

/-- A word or a stack write leaves the CPU as it found it, but for `SP`. -/
theorem State.writeByte_cpu {s t : State} {a : Word} {v : Byte} (h : s.writeByte a v = .next t) : t.cpu = s.cpu := by
  obtain ⟨-, rfl⟩ := State.writeByte_next.mp h
  simp

theorem State.writeWord_cpu {s t : State} {a w : Word} (h : s.writeWord a w = .next t) : t.cpu = s.cpu := by
  obtain ⟨u, h1, h2⟩ := andThen_next.mp h
  rw [State.writeByte_cpu h2, State.writeByte_cpu h1]

theorem State.push16_cpu {s t : State} {w : Word} (h : s.push16 w = .next t) :
    t.cpu = { s.cpu with sp := s.cpu.sp - 2 } :=
  State.writeWord_cpu h

/-! ### What no published write reaches, and the CPU beside one -/

theorem State.written_devices (s : State) (a : Word) (v : Byte) :
    (s.written a v).timer.timaAcc = s.timer.timaAcc ∧ (s.written a v).ppu.bitmap = s.ppu.bitmap ∧
      (s.written a v).ppu.framesReady = s.ppu.framesReady := by
  unfold State.written
  rcases (s.quiet a v).subscribers_cases a v with e | ⟨-, -, e⟩ | ⟨-, e⟩ | ⟨-, e⟩ | ⟨-, -, e⟩ | ⟨-, e⟩ | ⟨-, e⟩ | ⟨-, e⟩ <;> rw [e]
  · simp
  · simp
  · simp [State.startDma]
  · simp [State.resetDivider]
  · simp [State.serialOut]
  · have key : ∀ t : State, ((t.setMode .hBlank).setLy 0).timer.timaAcc = t.timer.timaAcc ∧
        ((t.setMode .hBlank).setLy 0).ppu.bitmap = t.ppu.bitmap ∧
        ((t.setMode .hBlank).setLy 0).ppu.framesReady = t.ppu.framesReady := by
      intro t
      have h := (t.onlyRegisters_setMode .hBlank).trans (State.onlyRegisters_setLy _ 0)
      exact ⟨by rw [h.timer], h.bitmap, h.framesReady⟩
    rcases (s.quiet a v).lcdControl_cases v with ⟨-, -, e⟩ | ⟨-, -, e⟩ | ⟨-, e⟩ <;> rw [e]
    · exact (key _).imp (·.trans (by simp)) (·.imp (·.trans (by simp)) (·.trans (by simp)))
    · simp
    · simp
  · simp [State.statWrite]
  · have h := State.onlyRegisters_coincidenceUpdate (s.quiet a v)
    rw [h.timer, h.bitmap, h.framesReady]; simp

theorem State.Moves.devices {s t : State} (h : s.Moves t) :
    t.timer.timaAcc = s.timer.timaAcc ∧ t.ppu.bitmap = s.ppu.bitmap ∧ t.ppu.framesReady = s.ppu.framesReady := by
  induction h with
  | refl => simp
  | cpu k _ ih => exact ih
  | store a v _ _ ih => simpa [State.written_devices] using ih

theorem State.placeWrite_withCpu (s : State) (k : Cpu) (p : Place) (v : Byte) :
    { s with cpu := k }.placeWrite p v = { s.placeWrite p v with cpu := k } := by
  unfold State.placeWrite State.ramWrite
  cases p <;> try rfl
  · cases h : s.cart <;> simp [h]
  · dsimp only; split <;> rfl

theorem State.quiet_withCpu (s : State) (k : Cpu) (a : Word) (v : Byte) :
    { s with cpu := k }.quiet a v = { s.quiet a v with cpu := k } := by
  unfold State.quiet
  rw [show State.place { s with cpu := k } a = s.place a from rfl, State.placeWrite_withCpu]
  rfl

theorem State.setMode_withCpu (s : State) (k : Cpu) (m : PpuMode) :
    { s with cpu := k }.setMode m = { s.setMode m with cpu := k } := by
  simp only [State.setMode_eq]

theorem State.coincidenceUpdate_withCpu (s : State) (k : Cpu) :
    { s with cpu := k }.coincidenceUpdate = { s.coincidenceUpdate with cpu := k } := by
  simp only [State.coincidenceUpdate_eq, State.statRequestIf_eq]
  split <;> rfl

theorem State.setLy_withCpu (s : State) (k : Cpu) (v : Byte) :
    { s with cpu := k }.setLy v = { s.setLy v with cpu := k } := by
  have key : ∀ t : State, State.coincidenceUpdate (State.quiet { t with cpu := k } 0xFF44 v) =
      { (t.quiet 0xFF44 v).coincidenceUpdate with cpu := k } := by
    intro t; rw [State.quiet_withCpu, State.coincidenceUpdate_withCpu]
  exact key { s with ppu := { s.ppu with ly := v } }

theorem State.subscribers_withCpu (s : State) (k : Cpu) (a : Word) (v : Byte) :
    { s with cpu := k }.subscribers a v = { s.subscribers a v with cpu := k } := by
  unfold State.subscribers
  split
  · split <;> rfl
  split
  · rfl
  split
  · unfold State.resetDivider; rw [State.quiet_withCpu]
  split
  · split <;> rfl
  split
  · unfold State.lcdControl
    have key : ∀ t : State, (State.setMode { t with cpu := k } .hBlank).setLy 0 =
        { (t.setMode .hBlank).setLy 0 with cpu := k } := by
      intro t; rw [State.setMode_withCpu, State.setLy_withCpu]
    cases h : s.ppu.lcdOn <;> cases h' : v.getLsbD 7 <;>
      simp only [Bool.false_and, Bool.true_and, Bool.not_true, Bool.not_false, Bool.false_eq_true, if_true, if_false]
    exact key { s with ppu := { s.ppu with lcdOn := false, credit := 0, nextStep := .oamScan, ly := 0 } }
  split
  · unfold State.statWrite; rw [State.quiet_withCpu]
  split
  · exact s.coincidenceUpdate_withCpu k
  · rfl

/-- A published write does not look at the CPU. -/
theorem State.written_withCpu (s : State) (k : Cpu) (a : Word) (v : Byte) :
    { s with cpu := k }.written a v = { s.written a v with cpu := k } := by
  unfold State.written
  rw [State.quiet_withCpu, State.subscribers_withCpu]

end Sys2Proof.Machine
end

