-- ==== Sys2Proof/Laws/Forms.lean ====
section
/-! SUPPORT. The forms of the instruction set: every instruction is one of the shapes below, so that a proof about all
of them is a proof about each shape; and for each shape the shared operation its meaning is. -/

namespace Sys2Proof

/-- The shapes an instruction can have, with their operands. -/
inductive Instr.View : Instr → Prop where
  | load (dst r : Reg8) : View (.ldForm (.reg dst) (.reg r))
  | loadHl (dst : Reg8) : View (.ldForm (.reg dst) .mhl)
  | storeHl (r : Reg8) : View (.ldForm .mhl (.reg r))
  | loadImm (dst : Reg8) (n : Byte) : View (.ldImmForm (.reg dst) n)
  | storeHlImm (n : Byte) : View (.ldImmForm .mhl n)
  | alu (op : AluOp) (x : Machine.AluSource) : View (x.instr op)
  | inc (r : Reg8) : View (.incForm (.reg r))
  | dec (r : Reg8) : View (.decForm (.reg r))
  | incHl : View (.incForm .mhl)
  | decHl : View (.decForm .mhl)
  | ldPair (p : Pair) (nn : Word) : View (.ldPairForm p nn)
  | addHl (p : Pair) : View (.addHlForm p)
  | incPair (p : Pair) : View (.incPairForm p)
  | decPair (p : Pair) : View (.decPairForm p)
  | push (q : StackPair) : View (.pushForm q)
  | pop (q : StackPair) : View (.popForm q)
  | jrCond (cc : Cond) (e : Byte) : View (.jrCondForm cc e)
  | jpCond (cc : Cond) (nn : Word) : View (.jpCondForm cc nn)
  | callCond (cc : Cond) (nn : Word) : View (.callCondForm cc nn)
  | retCond (cc : Cond) : View (.retCondForm cc)
  | rst (t : Oct) : View (.rstForm t)
  | rot (op : RotOp) (r : Reg8) : View (.rotForm op (.reg r))
  | rotHl (op : RotOp) : View (.rotForm op .mhl)
  | bit (b : Oct) (r : Reg8) : View (.bitForm b (.reg r))
  | bitHl (b : Oct) : View (.bitForm b .mhl)
  | res (b : Oct) (r : Reg8) : View (.resForm b (.reg r))
  | resHl (b : Oct) : View (.resForm b .mhl)
  | set (b : Oct) (r : Reg8) : View (.setForm b (.reg r))
  | setHl (b : Oct) : View (.setForm b .mhl)
  | nop : View (.nop)
  | ld_mbc_a : View (.ld_mbc_a)
  | rlca : View (.rlca)
  | ld_mnn_sp (nn : Word) : View (.ld_mnn_sp nn)
  | ld_a_mbc : View (.ld_a_mbc)
  | rrca : View (.rrca)
  | stop (n : Byte) : View (.stop n)
  | ld_mde_a : View (.ld_mde_a)
  | rla : View (.rla)
  | jr_e (e : Byte) : View (.jr_e e)
  | ld_a_mde : View (.ld_a_mde)
  | rra : View (.rra)
  | ld_mhli_a : View (.ld_mhli_a)
  | daa : View (.daa)
  | ld_a_mhli : View (.ld_a_mhli)
  | cpl : View (.cpl)
  | ld_mhld_a : View (.ld_mhld_a)
  | scf : View (.scf)
  | ld_a_mhld : View (.ld_a_mhld)
  | ccf : View (.ccf)
  | halt : View (.halt)
  | jp_nn (nn : Word) : View (.jp_nn nn)
  | ret : View (.ret)
  | prefix_cb : View (.prefix_cb)
  | call_nn (nn : Word) : View (.call_nn nn)
  | illegal_d3 : View (.illegal_d3)
  | reti : View (.reti)
  | illegal_db : View (.illegal_db)
  | illegal_dd : View (.illegal_dd)
  | ldh_mn_a (n : Byte) : View (.ldh_mn_a n)
  | ldh_mc_a : View (.ldh_mc_a)
  | illegal_e3 : View (.illegal_e3)
  | illegal_e4 : View (.illegal_e4)
  | add_sp_e (e : Byte) : View (.add_sp_e e)
  | jp_hl : View (.jp_hl)
  | ld_mnn_a (nn : Word) : View (.ld_mnn_a nn)
  | illegal_eb : View (.illegal_eb)
  | illegal_ec : View (.illegal_ec)
  | illegal_ed : View (.illegal_ed)
  | ldh_a_mn (n : Byte) : View (.ldh_a_mn n)
  | ldh_a_mc : View (.ldh_a_mc)
  | di : View (.di)
  | illegal_f4 : View (.illegal_f4)
  | ld_hl_sp_e (e : Byte) : View (.ld_hl_sp_e e)
  | ld_sp_hl : View (.ld_sp_hl)
  | ld_a_mnn (nn : Word) : View (.ld_a_mnn nn)
  | ei : View (.ei)
  | illegal_fc : View (.illegal_fc)
  | illegal_fd : View (.illegal_fd)

/-- Every instruction has one of the shapes. -/
theorem Instr.view : ∀ i : Instr, i.View
  | .nop => .nop
  | .ld_bc_nn nn => .ldPair .bc nn
  | .ld_mbc_a => .ld_mbc_a
  | .inc_bc => .incPair .bc
  | .inc_b => .inc .b
  | .dec_b => .dec .b
  | .ld_b_n n => .loadImm .b n
  | .rlca => .rlca
  | .ld_mnn_sp nn => .ld_mnn_sp nn
  | .add_hl_bc => .addHl .bc
  | .ld_a_mbc => .ld_a_mbc
  | .dec_bc => .decPair .bc
  | .inc_c => .inc .c
  | .dec_c => .dec .c
  | .ld_c_n n => .loadImm .c n
  | .rrca => .rrca
  | .stop n => .stop n
  | .ld_de_nn nn => .ldPair .de nn
  | .ld_mde_a => .ld_mde_a
  | .inc_de => .incPair .de
  | .inc_d => .inc .d
  | .dec_d => .dec .d
  | .ld_d_n n => .loadImm .d n
  | .rla => .rla
  | .jr_e e => .jr_e e
  | .add_hl_de => .addHl .de
  | .ld_a_mde => .ld_a_mde
  | .dec_de => .decPair .de
  | .inc_e => .inc .e
  | .dec_e => .dec .e
  | .ld_e_n n => .loadImm .e n
  | .rra => .rra
  | .jr_nz_e e => .jrCond .nz e
  | .ld_hl_nn nn => .ldPair .hl nn
  | .ld_mhli_a => .ld_mhli_a
  | .inc_hl => .incPair .hl
  | .inc_h => .inc .h
  | .dec_h => .dec .h
  | .ld_h_n n => .loadImm .h n
  | .daa => .daa
  | .jr_z_e e => .jrCond .z e
  | .add_hl_hl => .addHl .hl
  | .ld_a_mhli => .ld_a_mhli
  | .dec_hl => .decPair .hl
  | .inc_l => .inc .l
  | .dec_l => .dec .l
  | .ld_l_n n => .loadImm .l n
  | .cpl => .cpl
  | .jr_nc_e e => .jrCond .nc e
  | .ld_sp_nn nn => .ldPair .sp nn
  | .ld_mhld_a => .ld_mhld_a
  | .inc_sp => .incPair .sp
  | .inc_mhl => .incHl
  | .dec_mhl => .decHl
  | .ld_mhl_n n => .storeHlImm n
  | .scf => .scf
  | .jr_c_e e => .jrCond .c e
  | .add_hl_sp => .addHl .sp
  | .ld_a_mhld => .ld_a_mhld
  | .dec_sp => .decPair .sp
  | .inc_a => .inc .a
  | .dec_a => .dec .a
  | .ld_a_n n => .loadImm .a n
  | .ccf => .ccf
  | .ld_b_b => .load .b .b
  | .ld_b_c => .load .b .c
  | .ld_b_d => .load .b .d
  | .ld_b_e => .load .b .e
  | .ld_b_h => .load .b .h
  | .ld_b_l => .load .b .l
  | .ld_b_mhl => .loadHl .b
  | .ld_b_a => .load .b .a
  | .ld_c_b => .load .c .b
  | .ld_c_c => .load .c .c
  | .ld_c_d => .load .c .d
  | .ld_c_e => .load .c .e
  | .ld_c_h => .load .c .h
  | .ld_c_l => .load .c .l
  | .ld_c_mhl => .loadHl .c
  | .ld_c_a => .load .c .a
  | .ld_d_b => .load .d .b
  | .ld_d_c => .load .d .c
  | .ld_d_d => .load .d .d
  | .ld_d_e => .load .d .e
  | .ld_d_h => .load .d .h
  | .ld_d_l => .load .d .l
  | .ld_d_mhl => .loadHl .d
  | .ld_d_a => .load .d .a
  | .ld_e_b => .load .e .b
  | .ld_e_c => .load .e .c
  | .ld_e_d => .load .e .d
  | .ld_e_e => .load .e .e
  | .ld_e_h => .load .e .h
  | .ld_e_l => .load .e .l
  | .ld_e_mhl => .loadHl .e
  | .ld_e_a => .load .e .a
  | .ld_h_b => .load .h .b
  | .ld_h_c => .load .h .c
  | .ld_h_d => .load .h .d
  | .ld_h_e => .load .h .e
  | .ld_h_h => .load .h .h
  | .ld_h_l => .load .h .l
  | .ld_h_mhl => .loadHl .h
  | .ld_h_a => .load .h .a
  | .ld_l_b => .load .l .b
  | .ld_l_c => .load .l .c
  | .ld_l_d => .load .l .d
  | .ld_l_e => .load .l .e
  | .ld_l_h => .load .l .h
  | .ld_l_l => .load .l .l
  | .ld_l_mhl => .loadHl .l
  | .ld_l_a => .load .l .a
  | .ld_mhl_b => .storeHl .b
  | .ld_mhl_c => .storeHl .c
  | .ld_mhl_d => .storeHl .d
  | .ld_mhl_e => .storeHl .e
  | .ld_mhl_h => .storeHl .h
  | .ld_mhl_l => .storeHl .l
  | .halt => .halt
  | .ld_mhl_a => .storeHl .a
  | .ld_a_b => .load .a .b
  | .ld_a_c => .load .a .c
  | .ld_a_d => .load .a .d
  | .ld_a_e => .load .a .e
  | .ld_a_h => .load .a .h
  | .ld_a_l => .load .a .l
  | .ld_a_mhl => .loadHl .a
  | .ld_a_a => .load .a .a
  | .add_a_b => .alu .add (.opnd (.reg .b))
  | .add_a_c => .alu .add (.opnd (.reg .c))
  | .add_a_d => .alu .add (.opnd (.reg .d))
  | .add_a_e => .alu .add (.opnd (.reg .e))
  | .add_a_h => .alu .add (.opnd (.reg .h))
  | .add_a_l => .alu .add (.opnd (.reg .l))
  | .add_a_mhl => .alu .add (.opnd .mhl)
  | .add_a_a => .alu .add (.opnd (.reg .a))
  | .adc_a_b => .alu .adc (.opnd (.reg .b))
  | .adc_a_c => .alu .adc (.opnd (.reg .c))
  | .adc_a_d => .alu .adc (.opnd (.reg .d))
  | .adc_a_e => .alu .adc (.opnd (.reg .e))
  | .adc_a_h => .alu .adc (.opnd (.reg .h))
  | .adc_a_l => .alu .adc (.opnd (.reg .l))
  | .adc_a_mhl => .alu .adc (.opnd .mhl)
  | .adc_a_a => .alu .adc (.opnd (.reg .a))
  | .sub_b => .alu .sub (.opnd (.reg .b))
  | .sub_c => .alu .sub (.opnd (.reg .c))
  | .sub_d => .alu .sub (.opnd (.reg .d))
  | .sub_e => .alu .sub (.opnd (.reg .e))
  | .sub_h => .alu .sub (.opnd (.reg .h))
  | .sub_l => .alu .sub (.opnd (.reg .l))
  | .sub_mhl => .alu .sub (.opnd .mhl)
  | .sub_a => .alu .sub (.opnd (.reg .a))
  | .sbc_a_b => .alu .sbc (.opnd (.reg .b))
  | .sbc_a_c => .alu .sbc (.opnd (.reg .c))
  | .sbc_a_d => .alu .sbc (.opnd (.reg .d))
  | .sbc_a_e => .alu .sbc (.opnd (.reg .e))
  | .sbc_a_h => .alu .sbc (.opnd (.reg .h))
  | .sbc_a_l => .alu .sbc (.opnd (.reg .l))
  | .sbc_a_mhl => .alu .sbc (.opnd .mhl)
  | .sbc_a_a => .alu .sbc (.opnd (.reg .a))
  | .and_b => .alu .and (.opnd (.reg .b))
  | .and_c => .alu .and (.opnd (.reg .c))
  | .and_d => .alu .and (.opnd (.reg .d))
  | .and_e => .alu .and (.opnd (.reg .e))
  | .and_h => .alu .and (.opnd (.reg .h))
  | .and_l => .alu .and (.opnd (.reg .l))
  | .and_mhl => .alu .and (.opnd .mhl)
  | .and_a => .alu .and (.opnd (.reg .a))
  | .xor_b => .alu .xor (.opnd (.reg .b))
  | .xor_c => .alu .xor (.opnd (.reg .c))
  | .xor_d => .alu .xor (.opnd (.reg .d))
  | .xor_e => .alu .xor (.opnd (.reg .e))
  | .xor_h => .alu .xor (.opnd (.reg .h))
  | .xor_l => .alu .xor (.opnd (.reg .l))
  | .xor_mhl => .alu .xor (.opnd .mhl)
  | .xor_a => .alu .xor (.opnd (.reg .a))
  | .or_b => .alu .or (.opnd (.reg .b))
  | .or_c => .alu .or (.opnd (.reg .c))
  | .or_d => .alu .or (.opnd (.reg .d))
  | .or_e => .alu .or (.opnd (.reg .e))
  | .or_h => .alu .or (.opnd (.reg .h))
  | .or_l => .alu .or (.opnd (.reg .l))
  | .or_mhl => .alu .or (.opnd .mhl)
  | .or_a => .alu .or (.opnd (.reg .a))
  | .cp_b => .alu .cp (.opnd (.reg .b))
  | .cp_c => .alu .cp (.opnd (.reg .c))
  | .cp_d => .alu .cp (.opnd (.reg .d))
  | .cp_e => .alu .cp (.opnd (.reg .e))
  | .cp_h => .alu .cp (.opnd (.reg .h))
  | .cp_l => .alu .cp (.opnd (.reg .l))
  | .cp_mhl => .alu .cp (.opnd .mhl)
  | .cp_a => .alu .cp (.opnd (.reg .a))
  | .ret_nz => .retCond .nz
  | .pop_bc => .pop .bc
  | .jp_nz_nn nn => .jpCond .nz nn
  | .jp_nn nn => .jp_nn nn
  | .call_nz_nn nn => .callCond .nz nn
  | .push_bc => .push .bc
  | .add_a_n n => .alu .add (.imm n)
  | .rst_00 => .rst .o0
  | .ret_z => .retCond .z
  | .ret => .ret
  | .jp_z_nn nn => .jpCond .z nn
  | .prefix_cb => .prefix_cb
  | .call_z_nn nn => .callCond .z nn
  | .call_nn nn => .call_nn nn
  | .adc_a_n n => .alu .adc (.imm n)
  | .rst_08 => .rst .o1
  | .ret_nc => .retCond .nc
  | .pop_de => .pop .de
  | .jp_nc_nn nn => .jpCond .nc nn
  | .illegal_d3 => .illegal_d3
  | .call_nc_nn nn => .callCond .nc nn
  | .push_de => .push .de
  | .sub_n n => .alu .sub (.imm n)
  | .rst_10 => .rst .o2
  | .ret_c => .retCond .c
  | .reti => .reti
  | .jp_c_nn nn => .jpCond .c nn
  | .illegal_db => .illegal_db
  | .call_c_nn nn => .callCond .c nn
  | .illegal_dd => .illegal_dd
  | .sbc_a_n n => .alu .sbc (.imm n)
  | .rst_18 => .rst .o3
  | .ldh_mn_a n => .ldh_mn_a n
  | .pop_hl => .pop .hl
  | .ldh_mc_a => .ldh_mc_a
  | .illegal_e3 => .illegal_e3
  | .illegal_e4 => .illegal_e4
  | .push_hl => .push .hl
  | .and_n n => .alu .and (.imm n)
  | .rst_20 => .rst .o4
  | .add_sp_e e => .add_sp_e e
  | .jp_hl => .jp_hl
  | .ld_mnn_a nn => .ld_mnn_a nn
  | .illegal_eb => .illegal_eb
  | .illegal_ec => .illegal_ec
  | .illegal_ed => .illegal_ed
  | .xor_n n => .alu .xor (.imm n)
  | .rst_28 => .rst .o5
  | .ldh_a_mn n => .ldh_a_mn n
  | .pop_af => .pop .af
  | .ldh_a_mc => .ldh_a_mc
  | .di => .di
  | .illegal_f4 => .illegal_f4
  | .push_af => .push .af
  | .or_n n => .alu .or (.imm n)
  | .rst_30 => .rst .o6
  | .ld_hl_sp_e e => .ld_hl_sp_e e
  | .ld_sp_hl => .ld_sp_hl
  | .ld_a_mnn nn => .ld_a_mnn nn
  | .ei => .ei
  | .illegal_fc => .illegal_fc
  | .illegal_fd => .illegal_fd
  | .cp_n n => .alu .cp (.imm n)
  | .rst_38 => .rst .o7
  | .rlc_b => .rot .rlc .b
  | .rlc_c => .rot .rlc .c
  | .rlc_d => .rot .rlc .d
  | .rlc_e => .rot .rlc .e
  | .rlc_h => .rot .rlc .h
  | .rlc_l => .rot .rlc .l
  | .rlc_mhl => .rotHl .rlc
  | .rlc_a => .rot .rlc .a
  | .rrc_b => .rot .rrc .b
  | .rrc_c => .rot .rrc .c
  | .rrc_d => .rot .rrc .d
  | .rrc_e => .rot .rrc .e
  | .rrc_h => .rot .rrc .h
  | .rrc_l => .rot .rrc .l
  | .rrc_mhl => .rotHl .rrc
  | .rrc_a => .rot .rrc .a
  | .rl_b => .rot .rl .b
  | .rl_c => .rot .rl .c
  | .rl_d => .rot .rl .d
  | .rl_e => .rot .rl .e
  | .rl_h => .rot .rl .h
  | .rl_l => .rot .rl .l
  | .rl_mhl => .rotHl .rl
  | .rl_a => .rot .rl .a
  | .rr_b => .rot .rr .b
  | .rr_c => .rot .rr .c
  | .rr_d => .rot .rr .d
  | .rr_e => .rot .rr .e
  | .rr_h => .rot .rr .h
  | .rr_l => .rot .rr .l
  | .rr_mhl => .rotHl .rr
  | .rr_a => .rot .rr .a
  | .sla_b => .rot .sla .b
  | .sla_c => .rot .sla .c
  | .sla_d => .rot .sla .d
  | .sla_e => .rot .sla .e
  | .sla_h => .rot .sla .h
  | .sla_l => .rot .sla .l
  | .sla_mhl => .rotHl .sla
  | .sla_a => .rot .sla .a
  | .sra_b => .rot .sra .b
  | .sra_c => .rot .sra .c
  | .sra_d => .rot .sra .d
  | .sra_e => .rot .sra .e
  | .sra_h => .rot .sra .h
  | .sra_l => .rot .sra .l
  | .sra_mhl => .rotHl .sra
  | .sra_a => .rot .sra .a
  | .swap_b => .rot .swap .b
  | .swap_c => .rot .swap .c
  | .swap_d => .rot .swap .d
  | .swap_e => .rot .swap .e
  | .swap_h => .rot .swap .h
  | .swap_l => .rot .swap .l
  | .swap_mhl => .rotHl .swap
  | .swap_a => .rot .swap .a
  | .srl_b => .rot .srl .b
  | .srl_c => .rot .srl .c
  | .srl_d => .rot .srl .d
  | .srl_e => .rot .srl .e
  | .srl_h => .rot .srl .h
  | .srl_l => .rot .srl .l
  | .srl_mhl => .rotHl .srl
  | .srl_a => .rot .srl .a
  | .bit_0_b => .bit .o0 .b
  | .bit_0_c => .bit .o0 .c
  | .bit_0_d => .bit .o0 .d
  | .bit_0_e => .bit .o0 .e
  | .bit_0_h => .bit .o0 .h
  | .bit_0_l => .bit .o0 .l
  | .bit_0_mhl => .bitHl .o0
  | .bit_0_a => .bit .o0 .a
  | .bit_1_b => .bit .o1 .b
  | .bit_1_c => .bit .o1 .c
  | .bit_1_d => .bit .o1 .d
  | .bit_1_e => .bit .o1 .e
  | .bit_1_h => .bit .o1 .h
  | .bit_1_l => .bit .o1 .l
  | .bit_1_mhl => .bitHl .o1
  | .bit_1_a => .bit .o1 .a
  | .bit_2_b => .bit .o2 .b
  | .bit_2_c => .bit .o2 .c
  | .bit_2_d => .bit .o2 .d
  | .bit_2_e => .bit .o2 .e
  | .bit_2_h => .bit .o2 .h
  | .bit_2_l => .bit .o2 .l
  | .bit_2_mhl => .bitHl .o2
  | .bit_2_a => .bit .o2 .a
  | .bit_3_b => .bit .o3 .b
  | .bit_3_c => .bit .o3 .c
  | .bit_3_d => .bit .o3 .d
  | .bit_3_e => .bit .o3 .e
  | .bit_3_h => .bit .o3 .h
  | .bit_3_l => .bit .o3 .l
  | .bit_3_mhl => .bitHl .o3
  | .bit_3_a => .bit .o3 .a
  | .bit_4_b => .bit .o4 .b
  | .bit_4_c => .bit .o4 .c
  | .bit_4_d => .bit .o4 .d
  | .bit_4_e => .bit .o4 .e
  | .bit_4_h => .bit .o4 .h
  | .bit_4_l => .bit .o4 .l
  | .bit_4_mhl => .bitHl .o4
  | .bit_4_a => .bit .o4 .a
  | .bit_5_b => .bit .o5 .b
  | .bit_5_c => .bit .o5 .c
  | .bit_5_d => .bit .o5 .d
  | .bit_5_e => .bit .o5 .e
  | .bit_5_h => .bit .o5 .h
  | .bit_5_l => .bit .o5 .l
  | .bit_5_mhl => .bitHl .o5
  | .bit_5_a => .bit .o5 .a
  | .bit_6_b => .bit .o6 .b
  | .bit_6_c => .bit .o6 .c
  | .bit_6_d => .bit .o6 .d
  | .bit_6_e => .bit .o6 .e
  | .bit_6_h => .bit .o6 .h
  | .bit_6_l => .bit .o6 .l
  | .bit_6_mhl => .bitHl .o6
  | .bit_6_a => .bit .o6 .a
  | .bit_7_b => .bit .o7 .b
  | .bit_7_c => .bit .o7 .c
  | .bit_7_d => .bit .o7 .d
  | .bit_7_e => .bit .o7 .e
  | .bit_7_h => .bit .o7 .h
  | .bit_7_l => .bit .o7 .l
  | .bit_7_mhl => .bitHl .o7
  | .bit_7_a => .bit .o7 .a
  | .res_0_b => .res .o0 .b
  | .res_0_c => .res .o0 .c
  | .res_0_d => .res .o0 .d
  | .res_0_e => .res .o0 .e
  | .res_0_h => .res .o0 .h
  | .res_0_l => .res .o0 .l
  | .res_0_mhl => .resHl .o0
  | .res_0_a => .res .o0 .a
  | .res_1_b => .res .o1 .b
  | .res_1_c => .res .o1 .c
  | .res_1_d => .res .o1 .d
  | .res_1_e => .res .o1 .e
  | .res_1_h => .res .o1 .h
  | .res_1_l => .res .o1 .l
  | .res_1_mhl => .resHl .o1
  | .res_1_a => .res .o1 .a
  | .res_2_b => .res .o2 .b
  | .res_2_c => .res .o2 .c
  | .res_2_d => .res .o2 .d
  | .res_2_e => .res .o2 .e
  | .res_2_h => .res .o2 .h
  | .res_2_l => .res .o2 .l
  | .res_2_mhl => .resHl .o2
  | .res_2_a => .res .o2 .a
  | .res_3_b => .res .o3 .b
  | .res_3_c => .res .o3 .c
  | .res_3_d => .res .o3 .d
  | .res_3_e => .res .o3 .e
  | .res_3_h => .res .o3 .h
  | .res_3_l => .res .o3 .l
  | .res_3_mhl => .resHl .o3
  | .res_3_a => .res .o3 .a
  | .res_4_b => .res .o4 .b
  | .res_4_c => .res .o4 .c
  | .res_4_d => .res .o4 .d
  | .res_4_e => .res .o4 .e
  | .res_4_h => .res .o4 .h
  | .res_4_l => .res .o4 .l
  | .res_4_mhl => .resHl .o4
  | .res_4_a => .res .o4 .a
  | .res_5_b => .res .o5 .b
  | .res_5_c => .res .o5 .c
  | .res_5_d => .res .o5 .d
  | .res_5_e => .res .o5 .e
  | .res_5_h => .res .o5 .h
  | .res_5_l => .res .o5 .l
  | .res_5_mhl => .resHl .o5
  | .res_5_a => .res .o5 .a
  | .res_6_b => .res .o6 .b
  | .res_6_c => .res .o6 .c
  | .res_6_d => .res .o6 .d
  | .res_6_e => .res .o6 .e
  | .res_6_h => .res .o6 .h
  | .res_6_l => .res .o6 .l
  | .res_6_mhl => .resHl .o6
  | .res_6_a => .res .o6 .a
  | .res_7_b => .res .o7 .b
  | .res_7_c => .res .o7 .c
  | .res_7_d => .res .o7 .d
  | .res_7_e => .res .o7 .e
  | .res_7_h => .res .o7 .h
  | .res_7_l => .res .o7 .l
  | .res_7_mhl => .resHl .o7
  | .res_7_a => .res .o7 .a
  | .set_0_b => .set .o0 .b
  | .set_0_c => .set .o0 .c
  | .set_0_d => .set .o0 .d
  | .set_0_e => .set .o0 .e
  | .set_0_h => .set .o0 .h
  | .set_0_l => .set .o0 .l
  | .set_0_mhl => .setHl .o0
  | .set_0_a => .set .o0 .a
  | .set_1_b => .set .o1 .b
  | .set_1_c => .set .o1 .c
  | .set_1_d => .set .o1 .d
  | .set_1_e => .set .o1 .e
  | .set_1_h => .set .o1 .h
  | .set_1_l => .set .o1 .l
  | .set_1_mhl => .setHl .o1
  | .set_1_a => .set .o1 .a
  | .set_2_b => .set .o2 .b
  | .set_2_c => .set .o2 .c
  | .set_2_d => .set .o2 .d
  | .set_2_e => .set .o2 .e
  | .set_2_h => .set .o2 .h
  | .set_2_l => .set .o2 .l
  | .set_2_mhl => .setHl .o2
  | .set_2_a => .set .o2 .a
  | .set_3_b => .set .o3 .b
  | .set_3_c => .set .o3 .c
  | .set_3_d => .set .o3 .d
  | .set_3_e => .set .o3 .e
  | .set_3_h => .set .o3 .h
  | .set_3_l => .set .o3 .l
  | .set_3_mhl => .setHl .o3
  | .set_3_a => .set .o3 .a
  | .set_4_b => .set .o4 .b
  | .set_4_c => .set .o4 .c
  | .set_4_d => .set .o4 .d
  | .set_4_e => .set .o4 .e
  | .set_4_h => .set .o4 .h
  | .set_4_l => .set .o4 .l
  | .set_4_mhl => .setHl .o4
  | .set_4_a => .set .o4 .a
  | .set_5_b => .set .o5 .b
  | .set_5_c => .set .o5 .c
  | .set_5_d => .set .o5 .d
  | .set_5_e => .set .o5 .e
  | .set_5_h => .set .o5 .h
  | .set_5_l => .set .o5 .l
  | .set_5_mhl => .setHl .o5
  | .set_5_a => .set .o5 .a
  | .set_6_b => .set .o6 .b
  | .set_6_c => .set .o6 .c
  | .set_6_d => .set .o6 .d
  | .set_6_e => .set .o6 .e
  | .set_6_h => .set .o6 .h
  | .set_6_l => .set .o6 .l
  | .set_6_mhl => .setHl .o6
  | .set_6_a => .set .o6 .a
  | .set_7_b => .set .o7 .b
  | .set_7_c => .set .o7 .c
  | .set_7_d => .set .o7 .d
  | .set_7_e => .set .o7 .e
  | .set_7_h => .set .o7 .h
  | .set_7_l => .set .o7 .l
  | .set_7_mhl => .setHl .o7
  | .set_7_a => .set .o7 .a

namespace Machine

/-- The result and flags of an accumulator operation on `A`, the operand and the carry (R213 to R220). -/
def AluOp.compute (op : AluOp) (a b : Byte) (cin : Bool) : AluResult :=
  match op with
  | .add => add8 a b false
  | .adc => add8 a b cin
  | .sub => sub8 a b false
  | .sbc => sub8 a b cin
  | .and => and8 a b
  | .xor => xor8 a b
  | .or => or8 a b
  | .cp => sub8 a b false

/-- The result and flags of a rotate or shift (R291 to R298). -/
def RotOp.compute (op : RotOp) (v : Byte) (cin : Bool) : AluResult :=
  match op with
  | .rlc => rlc8 v
  | .rrc => rrc8 v
  | .rl => rl8 v cin
  | .rr => rr8 v cin
  | .sla => sla8 v
  | .sra => sra8 v
  | .swap => swap8 v
  | .srl => srl8 v

variable (s : State)

theorem exec_load (dst r : Reg8) : exec (.ldForm (.reg dst) (.reg r)) s = loadReg dst (s.reg r) 1 s := by
  cases dst <;> cases r <;> rfl
theorem exec_loadHl (dst : Reg8) : exec (.ldForm (.reg dst) .mhl) s = loadReg dst (s.read s.hl) 2 s := by
  cases dst <;> rfl
theorem exec_storeHl (r : Reg8) : exec (.ldForm .mhl (.reg r)) s = storeByte s.hl (s.reg r) 2 s := by cases r <;> rfl
theorem exec_loadImm (dst : Reg8) (n : Byte) : exec (.ldImmForm (.reg dst) n) s = loadReg dst n 2 s := by
  cases dst <;> rfl
theorem exec_storeHlImm (n : Byte) : exec (.ldImmForm .mhl n) s = storeByte s.hl n 3 s := rfl

theorem exec_alu (op : AluOp) (x : AluSource) :
    exec (x.instr op) s =
      (if op = .cp then compareA else writeA) (AluOp.compute op s.cpu.a (x.value s) s.cpu.f.c) x.cost s := by
  rcases x with (r | _) | n
  · cases op <;> cases r <;> rfl
  · cases op <;> rfl
  · cases op <;> rfl

theorem exec_inc (r : Reg8) : exec (.incForm (.reg r)) s = stepReg r (inc8 (s.reg r) s.cpu.f) 1 s := by cases r <;> rfl
theorem exec_dec (r : Reg8) : exec (.decForm (.reg r)) s = stepReg r (dec8 (s.reg r) s.cpu.f) 1 s := by cases r <;> rfl
theorem exec_incHl : exec (.incForm .mhl) s = stepMem (inc8 (s.read s.hl) s.cpu.f) 3 s := rfl
theorem exec_decHl : exec (.decForm .mhl) s = stepMem (dec8 (s.read s.hl) s.cpu.f) 3 s := rfl
theorem exec_ldPair (p : Pair) (nn : Word) : exec (.ldPairForm p nn) s = loadPair p nn 3 s := by cases p <;> rfl
theorem exec_addHl (p : Pair) : exec (.addHlForm p) s = addHl (s.pair p) 2 s := by cases p <;> rfl
theorem exec_incPair (p : Pair) : exec (.incPairForm p) s = loadPair p (s.pair p + 1) 2 s := by cases p <;> rfl
theorem exec_decPair (p : Pair) : exec (.decPairForm p) s = loadPair p (s.pair p - 1) 2 s := by cases p <;> rfl
theorem exec_push (q : StackPair) : exec (.pushForm q) s = pushWord (s.stackPair q) 4 s := by cases q <;> rfl
theorem exec_pop (q : StackPair) : exec (.popForm q) s = popPair q 3 s := by cases q <;> rfl
theorem exec_jrCond (cc : Cond) (e : Byte) :
    exec (.jrCondForm cc e) s = continueIf (s.cond cc) (.jumpBy cc e) 2 s := by cases cc <;> rfl
theorem exec_jpCond (cc : Cond) (nn : Word) :
    exec (.jpCondForm cc nn) s = continueIf (s.cond cc) (.jumpTo cc nn) 3 s := by cases cc <;> rfl
theorem exec_callCond (cc : Cond) (nn : Word) :
    exec (.callCondForm cc nn) s = continueIf (s.cond cc) (.callTo cc nn) 3 s := by cases cc <;> rfl
theorem exec_retCond (cc : Cond) : exec (.retCondForm cc) s = continueIf (s.cond cc) (.ret cc) 2 s := by cases cc <;> rfl
theorem exec_rst (t : Oct) : exec (.rstForm t) s = callTo (BitVec.ofNat 16 (8 * t.val)) 4 s := by cases t <;> rfl
theorem exec_rot (op : RotOp) (r : Reg8) :
    exec (.rotForm op (.reg r)) s = cbReg r (RotOp.compute op (s.reg r) s.cpu.f.c) 2 s := by
  cases op <;> cases r <;> rfl
theorem exec_rotHl (op : RotOp) :
    exec (.rotForm op .mhl) s = cbMem (RotOp.compute op (s.read s.hl) s.cpu.f.c) 4 s := by cases op <;> rfl
theorem exec_bit (b : Oct) (r : Reg8) : exec (.bitForm b (.reg r)) s = testBit (s.reg r) b.val 2 s := by
  cases b <;> cases r <;> rfl
theorem exec_bitHl (b : Oct) : exec (.bitForm b .mhl) s = testBit (s.read s.hl) b.val 3 s := by cases b <;> rfl
theorem exec_res (b : Oct) (r : Reg8) :
    exec (.resForm b (.reg r)) s = loadReg r (resBit (s.reg r) b.val) 2 s := by
  cases b <;> cases r <;> rfl
theorem exec_resHl (b : Oct) :
    exec (.resForm b .mhl) s = storeByte s.hl (resBit (s.read s.hl) b.val) 4 s := by cases b <;> rfl
theorem exec_set (b : Oct) (r : Reg8) :
    exec (.setForm b (.reg r)) s = loadReg r (setBit (s.reg r) b.val) 2 s := by
  cases b <;> cases r <;> rfl
theorem exec_setHl (b : Oct) :
    exec (.setForm b .mhl) s = storeByte s.hl (setBit (s.read s.hl) b.val) 4 s := by cases b <;> rfl

end Machine

end Sys2Proof
end

