-- ==== Sys2Proof/Laws/Shapes.lean ====
section
/-! SUPPORT. What each shared operation of the meanings can answer, said once; and that an instruction does nothing to
the rest of the machine but make published stores. -/

namespace Sys2Proof.Machine

variable {s t : State}

theorem storeByte_next {a : Word} {v : Byte} {n : Nat} :
    storeByte a v n s = .next t ↔ s.writeFault a v = none ∧ t = (s.written a v).charge n := by
  simp only [storeByte, andThen_next, State.writeByte_next]
  constructor
  · rintro ⟨u, ⟨h, rfl⟩, e⟩; cases e; exact ⟨h, rfl⟩
  · rintro ⟨h, rfl⟩; exact ⟨_, ⟨h, rfl⟩, rfl⟩

theorem stepMem_next {r : AluResult} {n : Nat} :
    stepMem r n s = .next t ↔
      s.writeFault s.hl r.value = none ∧ t = ((s.written s.hl r.value).setFlags r.flags).charge n := by
  simp only [stepMem, andThen_next, State.writeByte_next]
  constructor
  · rintro ⟨u, ⟨h, rfl⟩, e⟩; cases e; exact ⟨h, rfl⟩
  · rintro ⟨h, rfl⟩; exact ⟨_, ⟨h, rfl⟩, rfl⟩

theorem cbMem_next {r : AluResult} {n : Nat} :
    cbMem r n s = .next t ↔
      s.writeFault s.hl r.value = none ∧ t = ((s.written s.hl r.value).setFlags r.flags).charge n :=
  stepMem_next

theorem storeAStepHl_next {w : Word} {n : Nat} :
    storeAStepHl w n s = .next t ↔
      s.writeFault s.hl s.cpu.a = none ∧ t = ((s.written s.hl s.cpu.a).setPair .hl w).charge n := by
  simp only [storeAStepHl, andThen_next, State.writeByte_next]
  constructor
  · rintro ⟨u, ⟨h, rfl⟩, e⟩; cases e; exact ⟨h, rfl⟩
  · rintro ⟨h, rfl⟩; exact ⟨_, ⟨h, rfl⟩, rfl⟩

theorem State.writeWord_next {a w : Word} :
    s.writeWord a w = .next t ↔
      s.writeFault a (lo w) = none ∧ (s.written a (lo w)).writeFault (a + 1) (hi w) = none ∧
        t = (s.written a (lo w)).written (a + 1) (hi w) := by
  simp only [State.writeWord, andThen_next, State.writeByte_next]
  constructor
  · rintro ⟨u, ⟨h, rfl⟩, h', e⟩; exact ⟨h, h', e⟩
  · rintro ⟨h, h', e⟩; exact ⟨_, ⟨h, rfl⟩, h', e⟩

theorem storeWord_next {a w : Word} {n : Nat} :
    storeWord a w n s = .next t ↔ ∃ u, s.writeWord a w = .next u ∧ t = u.charge n := by
  simp only [storeWord, andThen_next]
  constructor
  · rintro ⟨u, h, e⟩; cases e; exact ⟨u, h, rfl⟩
  · rintro ⟨u, h, rfl⟩; exact ⟨u, h, rfl⟩

theorem pushWord_next {w : Word} {n : Nat} :
    pushWord w n s = .next t ↔ ∃ u, s.push16 w = .next u ∧ t = u.charge n := by
  simp only [pushWord, andThen_next]
  constructor
  · rintro ⟨u, h, e⟩; cases e; exact ⟨u, h, rfl⟩
  · rintro ⟨u, h, rfl⟩; exact ⟨u, h, rfl⟩

theorem callTo_next {w : Word} {n : Nat} :
    callTo w n s = .next t ↔ ∃ u, s.push16 s.cpu.pc = .next u ∧ t = (u.setPc w).charge n := by
  simp only [callTo, andThen_next]
  constructor
  · rintro ⟨u, h, e⟩; cases e; exact ⟨u, h, rfl⟩
  · rintro ⟨u, h, rfl⟩; exact ⟨u, h, rfl⟩

theorem haltTurn_next :
    haltTurn s = .next t ↔
      t = (if s.pending ≠ 0 then s else s.setQueue (some .haltWait)).charge 1 := by
  unfold haltTurn
  by_cases h : s.pending = 0 <;> simp only [h, bne_self_eq_false, bne_iff_ne, ne_eq, not_true, not_false_eq_true,
    Bool.false_eq_true, if_true, if_false, Host.Outcome.next.injEq] <;> exact eq_comm

theorem stopTurn_next :
    stopTurn s = .next t ↔
      t = (if (s.read 0xFF0F).getLsbD 4 = true then s else s.setQueue (some .stopWait)).charge 1 := by
  unfold stopTurn
  cases h : (s.read 0xFF0F).getLsbD 4 <;> simp only [Bool.false_eq_true, if_true, if_false,
    Host.Outcome.next.injEq] <;> exact eq_comm

theorem continueIf_next {b : Bool} {k : Command} {n : Nat} :
    continueIf b k n s = .next t ↔ t = (if b = true then s.setQueue (some (s.cut k)) else s).charge n := by
  unfold continueIf
  cases b <;> simp only [Bool.false_eq_true, if_true, if_false, Host.Outcome.next.injEq] <;> exact eq_comm

/-! ### The moves of each shape -/

theorem Moves.cpuOnly {u : State} (h : (Host.Outcome.next u : Result) = .next t) (e : u = { s with cpu := u.cpu }) :
    s.Moves t := by
  cases h; exact .of_cpu e.symm

theorem Moves.storeByte {a : Word} {v : Byte} {n : Nat} (h : Machine.storeByte a v n s = .next t) : s.Moves t := by
  obtain ⟨ok, rfl⟩ := storeByte_next.mp h
  exact .cpu _ (.store a v .refl ok)

theorem Moves.stepMem {r : AluResult} {n : Nat} (h : Machine.stepMem r n s = .next t) : s.Moves t := by
  obtain ⟨ok, rfl⟩ := stepMem_next.mp h
  exact .cpu _ (.cpu _ (.store _ _ .refl ok))

theorem Moves.storeAStepHl {w : Word} {n : Nat} (h : Machine.storeAStepHl w n s = .next t) : s.Moves t := by
  obtain ⟨ok, rfl⟩ := storeAStepHl_next.mp h
  exact .cpu _ (.cpu _ (.store _ _ .refl ok))

theorem Moves.storeWord {a w : Word} {n : Nat} (h : Machine.storeWord a w n s = .next t) : s.Moves t := by
  obtain ⟨u, hu, rfl⟩ := storeWord_next.mp h
  exact .cpu _ (State.Moves.writeWord hu)

theorem Moves.pushWord {w : Word} {n : Nat} (h : Machine.pushWord w n s = .next t) : s.Moves t := by
  obtain ⟨u, hu, rfl⟩ := pushWord_next.mp h
  exact .cpu _ (State.Moves.push16 hu)

theorem Moves.callTo {w : Word} {n : Nat} (h : Machine.callTo w n s = .next t) : s.Moves t := by
  obtain ⟨u, hu, rfl⟩ := callTo_next.mp h
  exact .cpu _ (.cpu _ (State.Moves.push16 hu))

theorem Moves.loadReg {r : Reg8} {v : Byte} {n : Nat} (h : Machine.loadReg r v n s = .next t) : s.Moves t :=
  Moves.cpuOnly h (by cases r <;> rfl)

theorem Moves.loadPair {p : Pair} {w : Word} {n : Nat} (h : Machine.loadPair p w n s = .next t) : s.Moves t :=
  Moves.cpuOnly h (by cases p <;> rfl)

theorem Moves.flagsOnly {f : Flags} {n : Nat} (h : Machine.flagsOnly f n s = .next t) : s.Moves t :=
  Moves.cpuOnly h rfl

theorem Moves.stepReg {r : Reg8} {x : AluResult} {n : Nat} (h : Machine.stepReg r x n s = .next t) : s.Moves t :=
  Moves.cpuOnly h (by cases r <;> rfl)

theorem Moves.popPair {q : StackPair} {n : Nat} (h : Machine.popPair q n s = .next t) : s.Moves t :=
  Moves.cpuOnly h (by cases q <;> rfl)

theorem Moves.returnFrom {n : Nat} (h : Machine.returnFrom n s = .next t) : s.Moves t := Moves.cpuOnly h rfl

theorem Moves.haltTurn (h : Machine.haltTurn s = .next t) : s.Moves t := by
  rw [haltTurn_next.mp h]; split <;> exact .of_cpu rfl

theorem Moves.stopTurn (h : Machine.stopTurn s = .next t) : s.Moves t := by
  rw [stopTurn_next.mp h]; split <;> exact .of_cpu rfl

theorem Moves.continueIf {b : Bool} {k : Command} {n : Nat} (h : Machine.continueIf b k n s = .next t) :
    s.Moves t := by
  rw [continueIf_next.mp h]; split <;> exact .of_cpu rfl

theorem Moves.stop (h : stopByParam s = .next t) : s.Moves t := by
  unfold stopByParam at h
  split at h
  · cases h
  · exact Moves.cpuOnly h rfl
  · exact Moves.stopTurn h

/-- An instruction changes the CPU's registers and makes published stores; it does nothing else. -/
theorem exec_moves {i : Instr} (h : exec i s = .next t) : s.Moves t := by
  cases i.view with
  | load dst r => exact Moves.loadReg (exec_load s dst r ▸ h)
  | loadHl dst => exact Moves.loadReg (exec_loadHl s dst ▸ h)
  | storeHl r => exact Moves.storeByte (exec_storeHl s r ▸ h)
  | loadImm dst n => exact Moves.loadReg (exec_loadImm s dst n ▸ h)
  | storeHlImm n => exact Moves.storeByte h
  | alu op x =>
    rw [exec_alu] at h
    split at h
    · exact Moves.flagsOnly h
    · exact Moves.stepReg (r := .a) h
  | inc r => exact Moves.stepReg (exec_inc s r ▸ h)
  | dec r => exact Moves.stepReg (exec_dec s r ▸ h)
  | incHl => exact Moves.stepMem h
  | decHl => exact Moves.stepMem h
  | ldPair p nn => exact Moves.loadPair (exec_ldPair s p nn ▸ h)
  | addHl p => rw [exec_addHl] at h; exact Moves.cpuOnly h rfl
  | incPair p => exact Moves.loadPair (exec_incPair s p ▸ h)
  | decPair p => exact Moves.loadPair (exec_decPair s p ▸ h)
  | push q => exact Moves.pushWord (exec_push s q ▸ h)
  | pop q => exact Moves.popPair (exec_pop s q ▸ h)
  | jrCond cc e => exact Moves.continueIf (exec_jrCond s cc e ▸ h)
  | jpCond cc nn => exact Moves.continueIf (exec_jpCond s cc nn ▸ h)
  | callCond cc nn => exact Moves.continueIf (exec_callCond s cc nn ▸ h)
  | retCond cc => exact Moves.continueIf (exec_retCond s cc ▸ h)
  | rst t => exact Moves.callTo (exec_rst s t ▸ h)
  | rot op r => exact Moves.stepReg (exec_rot s op r ▸ h)
  | rotHl op => exact Moves.stepMem (exec_rotHl s op ▸ h)
  | bit b r => exact Moves.flagsOnly (exec_bit s b r ▸ h)
  | bitHl b => exact Moves.flagsOnly (exec_bitHl s b ▸ h)
  | res b r => exact Moves.loadReg (exec_res s b r ▸ h)
  | resHl b => exact Moves.storeByte (exec_resHl s b ▸ h)
  | set b r => exact Moves.loadReg (exec_set s b r ▸ h)
  | setHl b => exact Moves.storeByte (exec_setHl s b ▸ h)
  | ld_mbc_a | ld_mde_a | ldh_mn_a | ldh_mc_a | ld_mnn_a => exact Moves.storeByte h
  | ld_mhli_a | ld_mhld_a => exact Moves.storeAStepHl h
  | ld_mnn_sp => exact Moves.storeWord h
  | call_nn => exact Moves.callTo h
  | halt => exact Moves.haltTurn h
  | stop => exact Moves.stop h
  | ret => exact Moves.returnFrom h
  | reti => exact (State.Moves.of_cpu rfl).trans (Moves.returnFrom h)
  | illegal_d3 | illegal_db | illegal_dd | illegal_e3 | illegal_e4 | illegal_eb | illegal_ec | illegal_ed | illegal_f4
  | illegal_fc | illegal_fd => cases h
  | _ => exact Moves.cpuOnly h rfl

/-! ### The CPU after each shape -/

/-- The control part of the CPU is as it was, and `n` M-cycles are paid. -/
structure Charged (n : Nat) (s t : State) : Prop where
  pc : t.cpu.pc = s.cpu.pc
  ime : t.cpu.ime = s.cpu.ime
  queue : t.cpu.queue = s.cpu.queue
  credit : t.cpu.credit = s.cpu.credit - n

theorem Charged.storeByte {a : Word} {v : Byte} {n : Nat} (h : Machine.storeByte a v n s = .next t) :
    Charged n s t := by
  obtain ⟨-, rfl⟩ := storeByte_next.mp h
  constructor <;> simp

theorem Charged.stepMem {r : AluResult} {n : Nat} (h : Machine.stepMem r n s = .next t) : Charged n s t := by
  obtain ⟨-, rfl⟩ := stepMem_next.mp h
  constructor <;> simp

theorem Charged.storeAStepHl {w : Word} {n : Nat} (h : Machine.storeAStepHl w n s = .next t) : Charged n s t := by
  obtain ⟨-, rfl⟩ := storeAStepHl_next.mp h
  constructor <;> simp [State.setPair]

theorem Charged.storeWord {a w : Word} {n : Nat} (h : Machine.storeWord a w n s = .next t) : Charged n s t := by
  obtain ⟨u, hu, rfl⟩ := storeWord_next.mp h
  constructor <;> simp [State.writeWord_cpu hu]

theorem Charged.pushWord {w : Word} {n : Nat} (h : Machine.pushWord w n s = .next t) : Charged n s t := by
  obtain ⟨u, hu, rfl⟩ := pushWord_next.mp h
  constructor <;> simp [State.push16_cpu hu]

theorem Charged.loadReg {r : Reg8} {v : Byte} {n : Nat} (h : Machine.loadReg r v n s = .next t) :
    Charged n s t := by
  cases h; constructor <;> simp

theorem Charged.stepReg {r : Reg8} {x : AluResult} {n : Nat} (h : Machine.stepReg r x n s = .next t) :
    Charged n s t := by
  cases h; constructor <;> simp

theorem Charged.loadPair {p : Pair} {w : Word} {n : Nat} (h : Machine.loadPair p w n s = .next t) :
    Charged n s t := by
  cases h; cases p <;> exact ⟨rfl, rfl, rfl, rfl⟩

theorem Charged.popPair {q : StackPair} {n : Nat} (h : Machine.popPair q n s = .next t) : Charged n s t := by
  cases h; cases q <;> exact ⟨rfl, rfl, rfl, rfl⟩

theorem Charged.flagsOnly {f : Flags} {n : Nat} (h : Machine.flagsOnly f n s = .next t) : Charged n s t := by
  cases h; exact ⟨rfl, rfl, rfl, rfl⟩

/-- A call writes `PC`, `SP` and the credit of the CPU. -/
theorem callTo_cpu {w : Word} {n : Nat} (h : callTo w n s = .next t) :
    t.cpu = { s.cpu with sp := s.cpu.sp - 2, pc := w, credit := s.cpu.credit - n } := by
  obtain ⟨u, hu, rfl⟩ := callTo_next.mp h
  simp [State.setPc, State.charge, State.push16_cpu hu]

/-- A step of the loop of a `run` call is one step of the machine. -/
theorem run_next {n : Nat} (h : step s = .next t) :
    Host.Core.run Sys2Proof.core (n + 1) s = Host.Core.run Sys2Proof.core n t := by
  have key : ∀ (M : Host.Core) (x y : M.State), M.step x = .next y → M.run (n + 1) x = M.run n y := by
    intro M x y h
    rw [Host.Core.run, h]
  exact key Sys2Proof.core s t h

/-- What holds of a state and is kept by every step holds of every state a run reaches. -/
theorem run_invariant {P : State → Prop} (keep : ∀ s t, P s → step s = .next t → P t) {n : Nat} (h0 : P s)
    (h : Host.Core.run Sys2Proof.core n s = .next t) : P t := by
  have key : ∀ (M : Host.Core) (P : M.State → Prop), (∀ s t, P s → M.step s = .next t → P t) →
      ∀ (n : Nat) (s t : M.State), P s → M.run n s = .next t → P t := by
    intro M P keep n
    induction n with
    | zero => intro s t h0 h; rw [Host.Core.run] at h; cases h; exact h0
    | succ n ih =>
      intro s t h0 h
      rw [Host.Core.run] at h
      cases hs : M.step s with
      | next u => rw [hs] at h; exact ih u t (keep s u h0 hs) h
      | fault x => rw [hs] at h; cases h
      | refused x => rw [hs] at h; cases h
  exact key Sys2Proof.core P keep n s t h0 h

end Sys2Proof.Machine
end

