-- ==== Sys2Proof/Laws/Turns.lean ====
section
/-! SUPPORT. What one turn of the CPU's loop can do (R310): end the call, or run a Command, take an interrupt or fetch,
all of which change the CPU's registers and make published stores and do nothing else. -/

namespace Sys2Proof.Machine

variable {s t : State}

theorem Moves.settle {c : Command} : s.Moves (s.settle c) := .of_cpu rfl

/-- A Command changes the CPU's registers and makes published stores; it does nothing else. -/
theorem runCommand_moves {c : Command} (h : runCommand c s = .next t) : s.Moves t := by
  cases c with
  | after n next => exact Moves.cpuOnly h rfl
  | exec i => exact exec_moves h
  | jumpTo cc w => exact Moves.cpuOnly h rfl
  | jumpBy cc e => exact Moves.cpuOnly h rfl
  | callTo cc w => exact Moves.callTo h
  | ret cc => exact Moves.returnFrom h
  | haltWait => exact Moves.haltTurn h
  | stopWait => exact Moves.stopTurn h

theorem fetchTurn_moves (h : fetchTurn s = .next t) : s.Moves t :=
  (State.Moves.of_cpu rfl).trans (runCommand_moves h)

/-- A turn of `CPU.run` ends the call or moves. -/
theorem cpuTurn_next (h : cpuTurn s = .next t) :
    (s.cpu.credit ≤ 0 ∧ t = s.setPhase (.mmu 114)) ∨ (0 < s.cpu.credit ∧ s.Moves t) := by
  unfold cpuTurn at h
  split at h
  · next hc => cases h; exact .inl ⟨hc, rfl⟩
  · next hc =>
    refine .inr ⟨by omega, ?_⟩
    split at h
    · exact (State.Moves.of_cpu rfl).trans (runCommand_moves h)
    · split at h
      · exact State.Moves.takeInterrupt h
      · exact fetchTurn_moves h

/-- Where the next step is a fetch, it is the fetch turn. -/
theorem State.Fetching.step (h : s.Fetching) : step s = fetchTurn s := by
  obtain ⟨hp, hc, hq, hi⟩ := h
  unfold Machine.step cpuTurn
  rw [hp]
  dsimp only
  rw [if_neg (Int.not_le.mpr hc), hq, hi]
  rfl

/-- An instruction that is not cut runs whole in its fetch turn. -/
theorem fetchTurn_of_lead_nil (h : s.lead (.exec s.fetched) = []) :
    fetchTurn s = exec s.fetched ((s.past s.fetched).settle (.exec s.fetched)) := by
  rw [fetchTurn, State.fetchedCommand, State.cut, h]
  rfl

/-- With the spec's table and D4's cut the fetch turn is the instruction's meaning past its bytes. -/
theorem fetchTurn_nil (hc : s.params.costs = []) (hp : s.params.partition = []) :
    fetchTurn s = exec s.fetched (s.past s.fetched) := by
  rw [fetchTurn_of_lead_nil (State.lead_nil hp _), State.settle_nil (s := s.past s.fetched) hc hp]

end Sys2Proof.Machine
end

