-- ==== Sys2Proof/Laws/Host.lean ====
section
/-! SUPPORT. What the host's operations do: which Cartridge a swap leaves in the slot and which outside it, and what each
operation can change. -/

namespace Sys2Proof.Machine

variable {s t : State}

/-! ### Resets and swaps, field by field -/

@[simp] theorem State.resetWith_cart (c : Option Cartridge) : (s.resetWith c).cart = c := rfl
@[simp] theorem State.resetWith_shelf (c : Option Cartridge) : (s.resetWith c).shelf = s.shelf := rfl
@[simp] theorem State.resetWith_bios (c : Option Cartridge) : (s.resetWith c).bios = s.bios := rfl
@[simp] theorem State.resetWith_params (c : Option Cartridge) : (s.resetWith c).params = s.params := rfl
@[simp] theorem State.resetWith_hostInput (c : Option Cartridge) : (s.resetWith c).hostInput = s.hostInput := rfl
@[simp] theorem State.resetWith_mbcReports (c : Option Cartridge) : (s.resetWith c).mbcReports = s.mbcReports := rfl
@[simp] theorem State.resetWith_clock (c : Option Cartridge) : (s.resetWith c).clock = State.reset.clock := rfl
@[simp] theorem State.resetWith_biosMapped (c : Option Cartridge) : (s.resetWith c).biosMapped = true := rfl

@[simp] theorem State.eject_shelf : s.eject.shelf = s.shelf ++ s.cart.toList := rfl
@[simp] theorem State.swapIn_cart (c : Cartridge) : (s.swapIn c).cart = some c := rfl
@[simp] theorem State.swapIn_shelf (c : Cartridge) : (s.swapIn c).shelf = s.shelf ++ s.cart.toList := rfl
@[simp] theorem State.swapIn_hostInput (c : Cartridge) : (s.swapIn c).hostInput = s.hostInput := rfl
@[simp] theorem State.swapIn_params (c : Cartridge) : (s.swapIn c).params = s.params := rfl

theorem State.putBack_some {k : Nat} {c : Cartridge} (h : s.shelf[k]? = some c) :
    s.putBack k = { s with shelf := s.shelf.eraseIdx k }.swapIn c := by rw [putBack, h]

theorem State.putBack_none {k : Nat} (h : s.shelf[k]? = none) : s.putBack k = s := by rw [putBack, h]

/-- The one value a freshly filled register file holds, within its length and beyond it. -/
theorem replicate_getD (n i : Nat) (v : Byte) : (Vector.replicate n v).getD i v = v := by
  unfold Vector.getD
  simp only [Vector.replicate, Array.getD_eq_getD_getElem?, Array.getElem?_replicate]
  split <;> rfl

/-- After a reset every byte outside BIOS and Cartridge is 0. -/
theorem State.resetWith_read_ram {c : Option Cartridge} {a : Word} {k : Nat} (h : (s.resetWith c).place a = .ram k) :
    (s.resetWith c).read a = 0 := by
  unfold State.read
  rw [h]
  show State.ramRead _ k = 0
  unfold State.ramRead
  split
  · exact replicate_getD _ _ _
  · rfl

/-! ### What an operation can do -/

theorem hostAction_joypad (v : Byte) :
    hostAction (.joypad v) s = .next { s with mem := Memory.write s.mem 0xFF00 v } :=
  congrArg Host.Outcome.next (s.quiet_register (a := 0xFF00) v (by decide) (by decide))

theorem hostAction_joypadRequest :
    hostAction .joypadRequest s = .next { s with mem := Memory.write s.mem 0xFF0F (s.read 0xFF0F ||| 0x10) } :=
  congrArg Host.Outcome.next (s.quiet_register (a := 0xFF0F) _ (by decide) (by decide))

/-- An insertion that goes through swaps the built Cartridge in, and adds to the reports at most. -/
theorem insertRom_next {len : Nat} {rom : List Host.Cell} (h : insertRom len rom s = .next t) :
    ∃ c l, Cartridge.build len rom = some c ∧ t = { s.swapIn c with mbcReports := l } := by
  unfold insertRom at h
  split at h
  · cases h
  · next c hc =>
    split at h <;> cases h
    · exact ⟨c, _, hc, rfl⟩
    · exact ⟨c, s.mbcReports, hc, rfl⟩

/-- An operation of the host writes a register, or resets the machine with some Cartridge in the slot, or does
nothing. -/
theorem hostAction_next {x : HostAction} (h : hostAction x s = .next t) :
    (∃ a v, t = s.quiet a v) ∨ t = s ∨
      ∃ (u : State) (c : Option Cartridge) (l : List Byte), t = { u.resetWith c with mbcReports := l } ∧ u = { s with cart := u.cart, shelf := u.shelf } := by
  cases x with
  | joypad v => cases h; exact .inl ⟨_, _, rfl⟩
  | joypadRequest => cases h; exact .inl ⟨_, _, rfl⟩
  | insert len rom =>
    obtain ⟨c, l, -, rfl⟩ := insertRom_next h
    exact .inr (.inr ⟨s.eject, some c, l, rfl, rfl⟩)
  | reinsert => cases h; exact .inr (.inr ⟨s, s.cart, s.mbcReports, rfl, rfl⟩)
  | putBack k =>
    cases h
    cases e : s.shelf[k]? with
    | none => exact .inr (.inl (State.putBack_none e))
    | some c =>
      rw [State.putBack_some e]
      exact .inr (.inr ⟨({ s with shelf := s.shelf.eraseIdx k } : State).eject, some c, s.mbcReports, rfl, rfl⟩)

/-- The host's coming operations and the parameters are as before. -/
theorem hostAction_kept {x : HostAction} (h : hostAction x s = .next t) :
    t.hostInput = s.hostInput ∧ t.params = s.params ∧ t.bios = s.bios := by
  rcases hostAction_next h with ⟨a, v, rfl⟩ | rfl | ⟨u, c, l, rfl, e⟩
  · simp
  · exact ⟨rfl, rfl, rfl⟩
  · rw [e]; exact ⟨rfl, rfl, rfl⟩

end Sys2Proof.Machine
end

