-- ==== Sys2Proof/Tests/Slice0.lean ====
section
/-! SUPPORT. The model's own tests: the well-formedness check; every row's bytes, written out from the spec's encoding
tables (30_encoding.md), decode to that row; the worked examples of 95_test_vectors.md, one step each; and for every
statement with hypotheses a state that meets them. -/

namespace Sys2Proof.Tests
open Sys2Proof.Machine

/-! ### Well-formedness and decoding -/

/-- The prefix byte is no instruction of its own (R138); every other form is. -/
theorem test_wf_refuses_prefix : Instr.wf .prefix_cb = false := by decide

theorem test_wf_accepts : [Instr.nop, .ld_b_n 0xFF, .jp_nn 0xFFFF, .illegal_dd, .set_7_a].all Instr.wf = true := by decide

/-- Each byte string is exactly the instruction beside it. -/
def reads (rows : List (List Byte × Instr)) : Bool := rows.all fun r =>
  match decode r.1 with
  | .ok (i, rest) => decide (i = r.2 ∧ rest = [])
  | .error _ => false

theorem test_decode_0x : reads [
    ([0x00], .nop), ([0x01, 0x34, 0x12], .ld_bc_nn 0x1234), ([0x02], .ld_mbc_a), ([0x03], .inc_bc),
    ([0x04], .inc_b), ([0x05], .dec_b), ([0x06, 0x9A], .ld_b_n 0x9A), ([0x07], .rlca),
    ([0x08, 0x34, 0x12], .ld_mnn_sp 0x1234), ([0x09], .add_hl_bc), ([0x0A], .ld_a_mbc),
    ([0x0B], .dec_bc), ([0x0C], .inc_c), ([0x0D], .dec_c), ([0x0E, 0x9A], .ld_c_n 0x9A), ([0x0F], .rrca)] = true := by decide

theorem test_decode_1x : reads [
    ([0x10, 0x9A], .stop 0x9A), ([0x11, 0x34, 0x12], .ld_de_nn 0x1234), ([0x12], .ld_mde_a),
    ([0x13], .inc_de), ([0x14], .inc_d), ([0x15], .dec_d), ([0x16, 0x9A], .ld_d_n 0x9A), ([0x17], .rla),
    ([0x18, 0x9A], .jr_e 0x9A), ([0x19], .add_hl_de), ([0x1A], .ld_a_mde), ([0x1B], .dec_de),
    ([0x1C], .inc_e), ([0x1D], .dec_e), ([0x1E, 0x9A], .ld_e_n 0x9A), ([0x1F], .rra)] = true := by decide

theorem test_decode_2x : reads [
    ([0x20, 0x9A], .jr_nz_e 0x9A), ([0x21, 0x34, 0x12], .ld_hl_nn 0x1234), ([0x22], .ld_mhli_a),
    ([0x23], .inc_hl), ([0x24], .inc_h), ([0x25], .dec_h), ([0x26, 0x9A], .ld_h_n 0x9A), ([0x27], .daa),
    ([0x28, 0x9A], .jr_z_e 0x9A), ([0x29], .add_hl_hl), ([0x2A], .ld_a_mhli), ([0x2B], .dec_hl),
    ([0x2C], .inc_l), ([0x2D], .dec_l), ([0x2E, 0x9A], .ld_l_n 0x9A), ([0x2F], .cpl)] = true := by decide

theorem test_decode_3x : reads [
    ([0x30, 0x9A], .jr_nc_e 0x9A), ([0x31, 0x34, 0x12], .ld_sp_nn 0x1234), ([0x32], .ld_mhld_a),
    ([0x33], .inc_sp), ([0x34], .inc_mhl), ([0x35], .dec_mhl), ([0x36, 0x9A], .ld_mhl_n 0x9A),
    ([0x37], .scf), ([0x38, 0x9A], .jr_c_e 0x9A), ([0x39], .add_hl_sp), ([0x3A], .ld_a_mhld),
    ([0x3B], .dec_sp), ([0x3C], .inc_a), ([0x3D], .dec_a), ([0x3E, 0x9A], .ld_a_n 0x9A), ([0x3F], .ccf)] = true := by decide

theorem test_decode_4x : reads [
    ([0x40], .ld_b_b), ([0x41], .ld_b_c), ([0x42], .ld_b_d), ([0x43], .ld_b_e), ([0x44], .ld_b_h),
    ([0x45], .ld_b_l), ([0x46], .ld_b_mhl), ([0x47], .ld_b_a), ([0x48], .ld_c_b), ([0x49], .ld_c_c),
    ([0x4A], .ld_c_d), ([0x4B], .ld_c_e), ([0x4C], .ld_c_h), ([0x4D], .ld_c_l), ([0x4E], .ld_c_mhl),
    ([0x4F], .ld_c_a)] = true := by decide

theorem test_decode_5x : reads [
    ([0x50], .ld_d_b), ([0x51], .ld_d_c), ([0x52], .ld_d_d), ([0x53], .ld_d_e), ([0x54], .ld_d_h),
    ([0x55], .ld_d_l), ([0x56], .ld_d_mhl), ([0x57], .ld_d_a), ([0x58], .ld_e_b), ([0x59], .ld_e_c),
    ([0x5A], .ld_e_d), ([0x5B], .ld_e_e), ([0x5C], .ld_e_h), ([0x5D], .ld_e_l), ([0x5E], .ld_e_mhl),
    ([0x5F], .ld_e_a)] = true := by decide

theorem test_decode_6x : reads [
    ([0x60], .ld_h_b), ([0x61], .ld_h_c), ([0x62], .ld_h_d), ([0x63], .ld_h_e), ([0x64], .ld_h_h),
    ([0x65], .ld_h_l), ([0x66], .ld_h_mhl), ([0x67], .ld_h_a), ([0x68], .ld_l_b), ([0x69], .ld_l_c),
    ([0x6A], .ld_l_d), ([0x6B], .ld_l_e), ([0x6C], .ld_l_h), ([0x6D], .ld_l_l), ([0x6E], .ld_l_mhl),
    ([0x6F], .ld_l_a)] = true := by decide

theorem test_decode_7x : reads [
    ([0x70], .ld_mhl_b), ([0x71], .ld_mhl_c), ([0x72], .ld_mhl_d), ([0x73], .ld_mhl_e),
    ([0x74], .ld_mhl_h), ([0x75], .ld_mhl_l), ([0x76], .halt), ([0x77], .ld_mhl_a), ([0x78], .ld_a_b),
    ([0x79], .ld_a_c), ([0x7A], .ld_a_d), ([0x7B], .ld_a_e), ([0x7C], .ld_a_h), ([0x7D], .ld_a_l),
    ([0x7E], .ld_a_mhl), ([0x7F], .ld_a_a)] = true := by decide

theorem test_decode_8x : reads [
    ([0x80], .add_a_b), ([0x81], .add_a_c), ([0x82], .add_a_d), ([0x83], .add_a_e), ([0x84], .add_a_h),
    ([0x85], .add_a_l), ([0x86], .add_a_mhl), ([0x87], .add_a_a), ([0x88], .adc_a_b), ([0x89], .adc_a_c),
    ([0x8A], .adc_a_d), ([0x8B], .adc_a_e), ([0x8C], .adc_a_h), ([0x8D], .adc_a_l), ([0x8E], .adc_a_mhl),
    ([0x8F], .adc_a_a)] = true := by decide

theorem test_decode_9x : reads [
    ([0x90], .sub_b), ([0x91], .sub_c), ([0x92], .sub_d), ([0x93], .sub_e), ([0x94], .sub_h),
    ([0x95], .sub_l), ([0x96], .sub_mhl), ([0x97], .sub_a), ([0x98], .sbc_a_b), ([0x99], .sbc_a_c),
    ([0x9A], .sbc_a_d), ([0x9B], .sbc_a_e), ([0x9C], .sbc_a_h), ([0x9D], .sbc_a_l), ([0x9E], .sbc_a_mhl),
    ([0x9F], .sbc_a_a)] = true := by decide

theorem test_decode_ax : reads [
    ([0xA0], .and_b), ([0xA1], .and_c), ([0xA2], .and_d), ([0xA3], .and_e), ([0xA4], .and_h),
    ([0xA5], .and_l), ([0xA6], .and_mhl), ([0xA7], .and_a), ([0xA8], .xor_b), ([0xA9], .xor_c),
    ([0xAA], .xor_d), ([0xAB], .xor_e), ([0xAC], .xor_h), ([0xAD], .xor_l), ([0xAE], .xor_mhl),
    ([0xAF], .xor_a)] = true := by decide

theorem test_decode_bx : reads [
    ([0xB0], .or_b), ([0xB1], .or_c), ([0xB2], .or_d), ([0xB3], .or_e), ([0xB4], .or_h), ([0xB5], .or_l),
    ([0xB6], .or_mhl), ([0xB7], .or_a), ([0xB8], .cp_b), ([0xB9], .cp_c), ([0xBA], .cp_d),
    ([0xBB], .cp_e), ([0xBC], .cp_h), ([0xBD], .cp_l), ([0xBE], .cp_mhl), ([0xBF], .cp_a)] = true := by decide

theorem test_decode_cx : reads [
    ([0xC0], .ret_nz), ([0xC1], .pop_bc), ([0xC2, 0x34, 0x12], .jp_nz_nn 0x1234),
    ([0xC3, 0x34, 0x12], .jp_nn 0x1234), ([0xC4, 0x34, 0x12], .call_nz_nn 0x1234), ([0xC5], .push_bc),
    ([0xC6, 0x9A], .add_a_n 0x9A), ([0xC7], .rst_00), ([0xC8], .ret_z), ([0xC9], .ret),
    ([0xCA, 0x34, 0x12], .jp_z_nn 0x1234), ([0xCC, 0x34, 0x12], .call_z_nn 0x1234),
    ([0xCD, 0x34, 0x12], .call_nn 0x1234), ([0xCE, 0x9A], .adc_a_n 0x9A), ([0xCF], .rst_08)] = true := by decide

theorem test_decode_dx : reads [
    ([0xD0], .ret_nc), ([0xD1], .pop_de), ([0xD2, 0x34, 0x12], .jp_nc_nn 0x1234), ([0xD3], .illegal_d3),
    ([0xD4, 0x34, 0x12], .call_nc_nn 0x1234), ([0xD5], .push_de), ([0xD6, 0x9A], .sub_n 0x9A),
    ([0xD7], .rst_10), ([0xD8], .ret_c), ([0xD9], .reti), ([0xDA, 0x34, 0x12], .jp_c_nn 0x1234),
    ([0xDB], .illegal_db), ([0xDC, 0x34, 0x12], .call_c_nn 0x1234), ([0xDD], .illegal_dd),
    ([0xDE, 0x9A], .sbc_a_n 0x9A), ([0xDF], .rst_18)] = true := by decide

theorem test_decode_ex : reads [
    ([0xE0, 0x9A], .ldh_mn_a 0x9A), ([0xE1], .pop_hl), ([0xE2], .ldh_mc_a), ([0xE3], .illegal_e3),
    ([0xE4], .illegal_e4), ([0xE5], .push_hl), ([0xE6, 0x9A], .and_n 0x9A), ([0xE7], .rst_20),
    ([0xE8, 0x9A], .add_sp_e 0x9A), ([0xE9], .jp_hl), ([0xEA, 0x34, 0x12], .ld_mnn_a 0x1234),
    ([0xEB], .illegal_eb), ([0xEC], .illegal_ec), ([0xED], .illegal_ed), ([0xEE, 0x9A], .xor_n 0x9A),
    ([0xEF], .rst_28)] = true := by decide

theorem test_decode_fx : reads [
    ([0xF0, 0x9A], .ldh_a_mn 0x9A), ([0xF1], .pop_af), ([0xF2], .ldh_a_mc), ([0xF3], .di),
    ([0xF4], .illegal_f4), ([0xF5], .push_af), ([0xF6, 0x9A], .or_n 0x9A), ([0xF7], .rst_30),
    ([0xF8, 0x9A], .ld_hl_sp_e 0x9A), ([0xF9], .ld_sp_hl), ([0xFA, 0x34, 0x12], .ld_a_mnn 0x1234),
    ([0xFB], .ei), ([0xFC], .illegal_fc), ([0xFD], .illegal_fd), ([0xFE, 0x9A], .cp_n 0x9A),
    ([0xFF], .rst_38)] = true := by decide

theorem test_decode_cb_0x : reads [
    ([0xCB, 0x00], .rlc_b), ([0xCB, 0x01], .rlc_c), ([0xCB, 0x02], .rlc_d), ([0xCB, 0x03], .rlc_e),
    ([0xCB, 0x04], .rlc_h), ([0xCB, 0x05], .rlc_l), ([0xCB, 0x06], .rlc_mhl), ([0xCB, 0x07], .rlc_a),
    ([0xCB, 0x08], .rrc_b), ([0xCB, 0x09], .rrc_c), ([0xCB, 0x0A], .rrc_d), ([0xCB, 0x0B], .rrc_e),
    ([0xCB, 0x0C], .rrc_h), ([0xCB, 0x0D], .rrc_l), ([0xCB, 0x0E], .rrc_mhl), ([0xCB, 0x0F], .rrc_a)] = true := by decide

theorem test_decode_cb_1x : reads [
    ([0xCB, 0x10], .rl_b), ([0xCB, 0x11], .rl_c), ([0xCB, 0x12], .rl_d), ([0xCB, 0x13], .rl_e),
    ([0xCB, 0x14], .rl_h), ([0xCB, 0x15], .rl_l), ([0xCB, 0x16], .rl_mhl), ([0xCB, 0x17], .rl_a),
    ([0xCB, 0x18], .rr_b), ([0xCB, 0x19], .rr_c), ([0xCB, 0x1A], .rr_d), ([0xCB, 0x1B], .rr_e),
    ([0xCB, 0x1C], .rr_h), ([0xCB, 0x1D], .rr_l), ([0xCB, 0x1E], .rr_mhl), ([0xCB, 0x1F], .rr_a)] = true := by decide

theorem test_decode_cb_2x : reads [
    ([0xCB, 0x20], .sla_b), ([0xCB, 0x21], .sla_c), ([0xCB, 0x22], .sla_d), ([0xCB, 0x23], .sla_e),
    ([0xCB, 0x24], .sla_h), ([0xCB, 0x25], .sla_l), ([0xCB, 0x26], .sla_mhl), ([0xCB, 0x27], .sla_a),
    ([0xCB, 0x28], .sra_b), ([0xCB, 0x29], .sra_c), ([0xCB, 0x2A], .sra_d), ([0xCB, 0x2B], .sra_e),
    ([0xCB, 0x2C], .sra_h), ([0xCB, 0x2D], .sra_l), ([0xCB, 0x2E], .sra_mhl), ([0xCB, 0x2F], .sra_a)] = true := by decide

theorem test_decode_cb_3x : reads [
    ([0xCB, 0x30], .swap_b), ([0xCB, 0x31], .swap_c), ([0xCB, 0x32], .swap_d), ([0xCB, 0x33], .swap_e),
    ([0xCB, 0x34], .swap_h), ([0xCB, 0x35], .swap_l), ([0xCB, 0x36], .swap_mhl), ([0xCB, 0x37], .swap_a),
    ([0xCB, 0x38], .srl_b), ([0xCB, 0x39], .srl_c), ([0xCB, 0x3A], .srl_d), ([0xCB, 0x3B], .srl_e),
    ([0xCB, 0x3C], .srl_h), ([0xCB, 0x3D], .srl_l), ([0xCB, 0x3E], .srl_mhl), ([0xCB, 0x3F], .srl_a)] = true := by decide

theorem test_decode_cb_4x : reads [
    ([0xCB, 0x40], .bit_0_b), ([0xCB, 0x41], .bit_0_c), ([0xCB, 0x42], .bit_0_d),
    ([0xCB, 0x43], .bit_0_e), ([0xCB, 0x44], .bit_0_h), ([0xCB, 0x45], .bit_0_l),
    ([0xCB, 0x46], .bit_0_mhl), ([0xCB, 0x47], .bit_0_a), ([0xCB, 0x48], .bit_1_b),
    ([0xCB, 0x49], .bit_1_c), ([0xCB, 0x4A], .bit_1_d), ([0xCB, 0x4B], .bit_1_e),
    ([0xCB, 0x4C], .bit_1_h), ([0xCB, 0x4D], .bit_1_l), ([0xCB, 0x4E], .bit_1_mhl),
    ([0xCB, 0x4F], .bit_1_a)] = true := by decide

theorem test_decode_cb_5x : reads [
    ([0xCB, 0x50], .bit_2_b), ([0xCB, 0x51], .bit_2_c), ([0xCB, 0x52], .bit_2_d),
    ([0xCB, 0x53], .bit_2_e), ([0xCB, 0x54], .bit_2_h), ([0xCB, 0x55], .bit_2_l),
    ([0xCB, 0x56], .bit_2_mhl), ([0xCB, 0x57], .bit_2_a), ([0xCB, 0x58], .bit_3_b),
    ([0xCB, 0x59], .bit_3_c), ([0xCB, 0x5A], .bit_3_d), ([0xCB, 0x5B], .bit_3_e),
    ([0xCB, 0x5C], .bit_3_h), ([0xCB, 0x5D], .bit_3_l), ([0xCB, 0x5E], .bit_3_mhl),
    ([0xCB, 0x5F], .bit_3_a)] = true := by decide

theorem test_decode_cb_6x : reads [
    ([0xCB, 0x60], .bit_4_b), ([0xCB, 0x61], .bit_4_c), ([0xCB, 0x62], .bit_4_d),
    ([0xCB, 0x63], .bit_4_e), ([0xCB, 0x64], .bit_4_h), ([0xCB, 0x65], .bit_4_l),
    ([0xCB, 0x66], .bit_4_mhl), ([0xCB, 0x67], .bit_4_a), ([0xCB, 0x68], .bit_5_b),
    ([0xCB, 0x69], .bit_5_c), ([0xCB, 0x6A], .bit_5_d), ([0xCB, 0x6B], .bit_5_e),
    ([0xCB, 0x6C], .bit_5_h), ([0xCB, 0x6D], .bit_5_l), ([0xCB, 0x6E], .bit_5_mhl),
    ([0xCB, 0x6F], .bit_5_a)] = true := by decide

theorem test_decode_cb_7x : reads [
    ([0xCB, 0x70], .bit_6_b), ([0xCB, 0x71], .bit_6_c), ([0xCB, 0x72], .bit_6_d),
    ([0xCB, 0x73], .bit_6_e), ([0xCB, 0x74], .bit_6_h), ([0xCB, 0x75], .bit_6_l),
    ([0xCB, 0x76], .bit_6_mhl), ([0xCB, 0x77], .bit_6_a), ([0xCB, 0x78], .bit_7_b),
    ([0xCB, 0x79], .bit_7_c), ([0xCB, 0x7A], .bit_7_d), ([0xCB, 0x7B], .bit_7_e),
    ([0xCB, 0x7C], .bit_7_h), ([0xCB, 0x7D], .bit_7_l), ([0xCB, 0x7E], .bit_7_mhl),
    ([0xCB, 0x7F], .bit_7_a)] = true := by decide

theorem test_decode_cb_8x : reads [
    ([0xCB, 0x80], .res_0_b), ([0xCB, 0x81], .res_0_c), ([0xCB, 0x82], .res_0_d),
    ([0xCB, 0x83], .res_0_e), ([0xCB, 0x84], .res_0_h), ([0xCB, 0x85], .res_0_l),
    ([0xCB, 0x86], .res_0_mhl), ([0xCB, 0x87], .res_0_a), ([0xCB, 0x88], .res_1_b),
    ([0xCB, 0x89], .res_1_c), ([0xCB, 0x8A], .res_1_d), ([0xCB, 0x8B], .res_1_e),
    ([0xCB, 0x8C], .res_1_h), ([0xCB, 0x8D], .res_1_l), ([0xCB, 0x8E], .res_1_mhl),
    ([0xCB, 0x8F], .res_1_a)] = true := by decide

theorem test_decode_cb_9x : reads [
    ([0xCB, 0x90], .res_2_b), ([0xCB, 0x91], .res_2_c), ([0xCB, 0x92], .res_2_d),
    ([0xCB, 0x93], .res_2_e), ([0xCB, 0x94], .res_2_h), ([0xCB, 0x95], .res_2_l),
    ([0xCB, 0x96], .res_2_mhl), ([0xCB, 0x97], .res_2_a), ([0xCB, 0x98], .res_3_b),
    ([0xCB, 0x99], .res_3_c), ([0xCB, 0x9A], .res_3_d), ([0xCB, 0x9B], .res_3_e),
    ([0xCB, 0x9C], .res_3_h), ([0xCB, 0x9D], .res_3_l), ([0xCB, 0x9E], .res_3_mhl),
    ([0xCB, 0x9F], .res_3_a)] = true := by decide

theorem test_decode_cb_ax : reads [
    ([0xCB, 0xA0], .res_4_b), ([0xCB, 0xA1], .res_4_c), ([0xCB, 0xA2], .res_4_d),
    ([0xCB, 0xA3], .res_4_e), ([0xCB, 0xA4], .res_4_h), ([0xCB, 0xA5], .res_4_l),
    ([0xCB, 0xA6], .res_4_mhl), ([0xCB, 0xA7], .res_4_a), ([0xCB, 0xA8], .res_5_b),
    ([0xCB, 0xA9], .res_5_c), ([0xCB, 0xAA], .res_5_d), ([0xCB, 0xAB], .res_5_e),
    ([0xCB, 0xAC], .res_5_h), ([0xCB, 0xAD], .res_5_l), ([0xCB, 0xAE], .res_5_mhl),
    ([0xCB, 0xAF], .res_5_a)] = true := by decide

theorem test_decode_cb_bx : reads [
    ([0xCB, 0xB0], .res_6_b), ([0xCB, 0xB1], .res_6_c), ([0xCB, 0xB2], .res_6_d),
    ([0xCB, 0xB3], .res_6_e), ([0xCB, 0xB4], .res_6_h), ([0xCB, 0xB5], .res_6_l),
    ([0xCB, 0xB6], .res_6_mhl), ([0xCB, 0xB7], .res_6_a), ([0xCB, 0xB8], .res_7_b),
    ([0xCB, 0xB9], .res_7_c), ([0xCB, 0xBA], .res_7_d), ([0xCB, 0xBB], .res_7_e),
    ([0xCB, 0xBC], .res_7_h), ([0xCB, 0xBD], .res_7_l), ([0xCB, 0xBE], .res_7_mhl),
    ([0xCB, 0xBF], .res_7_a)] = true := by decide

theorem test_decode_cb_cx : reads [
    ([0xCB, 0xC0], .set_0_b), ([0xCB, 0xC1], .set_0_c), ([0xCB, 0xC2], .set_0_d),
    ([0xCB, 0xC3], .set_0_e), ([0xCB, 0xC4], .set_0_h), ([0xCB, 0xC5], .set_0_l),
    ([0xCB, 0xC6], .set_0_mhl), ([0xCB, 0xC7], .set_0_a), ([0xCB, 0xC8], .set_1_b),
    ([0xCB, 0xC9], .set_1_c), ([0xCB, 0xCA], .set_1_d), ([0xCB, 0xCB], .set_1_e),
    ([0xCB, 0xCC], .set_1_h), ([0xCB, 0xCD], .set_1_l), ([0xCB, 0xCE], .set_1_mhl),
    ([0xCB, 0xCF], .set_1_a)] = true := by decide

theorem test_decode_cb_dx : reads [
    ([0xCB, 0xD0], .set_2_b), ([0xCB, 0xD1], .set_2_c), ([0xCB, 0xD2], .set_2_d),
    ([0xCB, 0xD3], .set_2_e), ([0xCB, 0xD4], .set_2_h), ([0xCB, 0xD5], .set_2_l),
    ([0xCB, 0xD6], .set_2_mhl), ([0xCB, 0xD7], .set_2_a), ([0xCB, 0xD8], .set_3_b),
    ([0xCB, 0xD9], .set_3_c), ([0xCB, 0xDA], .set_3_d), ([0xCB, 0xDB], .set_3_e),
    ([0xCB, 0xDC], .set_3_h), ([0xCB, 0xDD], .set_3_l), ([0xCB, 0xDE], .set_3_mhl),
    ([0xCB, 0xDF], .set_3_a)] = true := by decide

theorem test_decode_cb_ex : reads [
    ([0xCB, 0xE0], .set_4_b), ([0xCB, 0xE1], .set_4_c), ([0xCB, 0xE2], .set_4_d),
    ([0xCB, 0xE3], .set_4_e), ([0xCB, 0xE4], .set_4_h), ([0xCB, 0xE5], .set_4_l),
    ([0xCB, 0xE6], .set_4_mhl), ([0xCB, 0xE7], .set_4_a), ([0xCB, 0xE8], .set_5_b),
    ([0xCB, 0xE9], .set_5_c), ([0xCB, 0xEA], .set_5_d), ([0xCB, 0xEB], .set_5_e),
    ([0xCB, 0xEC], .set_5_h), ([0xCB, 0xED], .set_5_l), ([0xCB, 0xEE], .set_5_mhl),
    ([0xCB, 0xEF], .set_5_a)] = true := by decide

theorem test_decode_cb_fx : reads [
    ([0xCB, 0xF0], .set_6_b), ([0xCB, 0xF1], .set_6_c), ([0xCB, 0xF2], .set_6_d),
    ([0xCB, 0xF3], .set_6_e), ([0xCB, 0xF4], .set_6_h), ([0xCB, 0xF5], .set_6_l),
    ([0xCB, 0xF6], .set_6_mhl), ([0xCB, 0xF7], .set_6_a), ([0xCB, 0xF8], .set_7_b),
    ([0xCB, 0xF9], .set_7_c), ([0xCB, 0xFA], .set_7_d), ([0xCB, 0xFB], .set_7_e),
    ([0xCB, 0xFC], .set_7_h), ([0xCB, 0xFD], .set_7_l), ([0xCB, 0xFE], .set_7_mhl),
    ([0xCB, 0xFF], .set_7_a)] = true := by decide

theorem test_decode_short : (decode []).isOk = false ∧ (decode [0xCB]).isOk = false ∧ (decode [0x01, 0x34]).isOk = false := by
  decide

/-- The opcode table numbers the first byte's bits 7 to 0 and the second byte's 15 to 8. -/
theorem test_decodeTableWord : decodeTableWord 8 0x76 = some .halt ∧ decodeTableWord 8 0xC3 = some (.jp_nn 0) ∧
    decodeTableWord 16 0x7CCB = some .bit_7_h ∧ decodeTableWord 8 0xCB = some .rlc_b := by decide

/-! ### A small machine -/

/-- The CPU about to fetch at 0xC800. -/
def cpu0 : Cpu := { Cpu.reset with pc := 0xC800, sp := 0xFFFE, credit := 100 }

/-- A machine with these bytes in memory, the BIOS removed and no cartridge, inside `CPU.run`. -/
def machine (k : Cpu) (bytes : List Host.Cell) : State :=
  { State.reset with
    cpu := k
    mem := bytes.foldr (fun c m => Memory.write m c.1 c.2) []
    biosMapped := false
    clock := { phase := .cpu, slice := 0 } }

/-- The code bytes at their addresses from `a` on. -/
def codeAt (a : Nat) : List Byte → List Host.Cell
  | [] => []
  | b :: rest => (a, b) :: codeAt (a + 1) rest

/-- One step from `k` with this code at `PC`. -/
def ran (k : Cpu) (code : List Byte) (bytes : List Host.Cell := []) : Result :=
  step (machine k (codeAt k.pc.toNat code ++ bytes))

/-- What is seen of the state a step ends in; nothing where it ends in a fault. -/
def seen {α : Type} (f : State → α) (r : Result) : Option α :=
  match r with
  | .next t => some (f t)
  | _ => none

/-- How far `PC` moved and what was paid. -/
def pace (k : Cpu) (t : State) : Nat × Int := ((t.cpu.pc - k.pc).toNat, k.credit - t.cpu.credit)

/-! ### Instructions (95_test_vectors.md, section 3) -/

theorem test_ld_b_c : seen (fun t => (t.cpu.b, t.cpu.f.toByte, pace { cpu0 with b := 0x12, c := 0x34, f := Flags.ofByte 0xF0 } t)) (ran { cpu0 with b := 0x12, c := 0x34, f := Flags.ofByte 0xF0 } [0x41]) =
    some (0x34, 0xF0, (1, 1)) := by decide

theorem test_ld_b_n : seen (fun t => (t.cpu.b, pace cpu0 t)) (ran cpu0 [0x06, 0x7F]) =
    some (0x7F, (2, 2)) := by decide

theorem test_ld_a_mhl : seen (fun t => (t.cpu.a, pace { cpu0 with h := 0xC0, l := 0x00 } t)) (ran { cpu0 with h := 0xC0, l := 0x00 } [0x7E] [(0xC000, 0x5A)]) =
    some (0x5A, (1, 2)) := by decide

theorem test_ld_mhl_b : seen (fun t => (t.read 0xC010, pace { cpu0 with h := 0xC0, l := 0x10, b := 0x99 } t)) (ran { cpu0 with h := 0xC0, l := 0x10, b := 0x99 } [0x70]) =
    some (0x99, (1, 2)) := by decide

theorem test_ld_mhl_n : seen (fun t => (t.read 0xC020, pace { cpu0 with h := 0xC0, l := 0x20 } t)) (ran { cpu0 with h := 0xC0, l := 0x20 } [0x36, 0xAB]) =
    some (0xAB, (2, 3)) := by decide

theorem test_ld_a_mbc : seen (fun t => (t.cpu.a, pace { cpu0 with b := 0xC0, c := 0x01 } t)) (ran { cpu0 with b := 0xC0, c := 0x01 } [0x0A] [(0xC001, 0x11)]) =
    some (0x11, (1, 2)) := by decide

theorem test_ld_mde_a : seen (fun t => (t.read 0xC002, pace { cpu0 with d := 0xC0, e := 0x02, a := 0x22 } t)) (ran { cpu0 with d := 0xC0, e := 0x02, a := 0x22 } [0x12]) =
    some (0x22, (1, 2)) := by decide

theorem test_ld_a_mnn : seen (fun t => (t.cpu.a, pace cpu0 t)) (ran cpu0 [0xFA, 0x23, 0xC1] [(0xC123, 0x77)]) =
    some (0x77, (3, 4)) := by decide

/-- Through the echo (R82). -/
theorem test_ld_mnn_a : seen (fun t => (t.read 0xC123, t.read 0xE123, pace { cpu0 with a := 0x66 } t)) (ran { cpu0 with a := 0x66 } [0xEA, 0x23, 0xE1]) =
    some (0x66, 0x66, (3, 4)) := by decide

theorem test_ldh_mc_a : seen (fun t => (t.read 0xFF80, pace { cpu0 with c := 0x80, a := 0x3C } t)) (ran { cpu0 with c := 0x80, a := 0x3C } [0xE2]) =
    some (0x3C, (1, 2)) := by decide

theorem test_ldh_a_mc : seen (fun t => (t.cpu.a, pace { cpu0 with c := 0x80 } t)) (ran { cpu0 with c := 0x80 } [0xF2] [(0xFF80, 0x3C)]) =
    some (0x3C, (1, 2)) := by decide

theorem test_ldh_mn_a : seen (fun t => (t.read 0xFF47, pace { cpu0 with a := 0xE4 } t)) (ran { cpu0 with a := 0xE4 } [0xE0, 0x47]) =
    some (0xE4, (2, 3)) := by decide

theorem test_ldh_a_mn : seen (fun t => (t.cpu.a, pace cpu0 t)) (ran cpu0 [0xF0, 0x44] [(0xFF44, 0x91)]) =
    some (0x91, (2, 3)) := by decide

theorem test_ld_a_mhli : seen (fun t => (t.cpu.a, t.pair .hl, pace { cpu0 with h := 0xFF, l := 0xFF } t)) (ran { cpu0 with h := 0xFF, l := 0xFF } [0x2A] [(0xFFFF, 0x1F)]) =
    some (0x1F, 0x0000, (1, 2)) := by decide

theorem test_ld_a_mhld : seen (fun t => (t.cpu.a, t.pair .hl, pace { cpu0 with h := 0xC0, l := 0x00 } t)) (ran { cpu0 with h := 0xC0, l := 0x00 } [0x3A] [(0xC000, 0x01)]) =
    some (0x01, 0xBFFF, (1, 2)) := by decide

theorem test_ld_mhli_a : seen (fun t => (t.read 0x9FFF, t.pair .hl, pace { cpu0 with h := 0x9F, l := 0xFF, a := 0x07 } t)) (ran { cpu0 with h := 0x9F, l := 0xFF, a := 0x07 } [0x22]) =
    some (0x07, 0xA000, (1, 2)) := by decide

theorem test_ld_mhld_a : seen (fun t => (t.read 0x8000, t.pair .hl, pace { cpu0 with h := 0x80, l := 0x00, a := 0x07 } t)) (ran { cpu0 with h := 0x80, l := 0x00, a := 0x07 } [0x32]) =
    some (0x07, 0x7FFF, (1, 2)) := by decide

theorem test_ld_sp_nn : seen (fun t => (t.cpu.sp, pace cpu0 t)) (ran cpu0 [0x31, 0xFE, 0xFF]) =
    some (0xFFFE, (3, 3)) := by decide

theorem test_ld_mnn_sp : seen (fun t => (t.read 0xC100, t.read 0xC101, pace { cpu0 with sp := 0xFFF8 } t)) (ran { cpu0 with sp := 0xFFF8 } [0x08, 0x00, 0xC1]) =
    some (0xF8, 0xFF, (3, 5)) := by decide

theorem test_ld_sp_hl : seen (fun t => (t.cpu.sp, t.cpu.f.toByte, pace { cpu0 with h := 0xD0, l := 0x00, f := Flags.ofByte 0xF0 } t)) (ran { cpu0 with h := 0xD0, l := 0x00, f := Flags.ofByte 0xF0 } [0xF9]) =
    some (0xD000, 0xF0, (1, 2)) := by decide

theorem test_ld_hl_sp_e : seen (fun t => (t.pair .hl, t.cpu.f.toByte, pace { cpu0 with sp := 0xFFFF } t)) (ran { cpu0 with sp := 0xFFFF } [0xF8, 0x01]) =
    some (0x0000, 0x30, (2, 3)) := by decide

theorem test_ld_hl_sp_e_negative : seen (fun t => (t.pair .hl, t.cpu.f.toByte, pace { cpu0 with sp := 0x0000 } t)) (ran { cpu0 with sp := 0x0000 } [0xF8, 0xFF]) =
    some (0xFFFF, 0x00, (2, 3)) := by decide

theorem test_push_bc : seen (fun t => (t.cpu.sp, t.read 0xFFFC, t.read 0xFFFD, pace { cpu0 with b := 0x12, c := 0x34 } t)) (ran { cpu0 with b := 0x12, c := 0x34 } [0xC5]) =
    some (0xFFFC, 0x34, 0x12, (1, 4)) := by decide

theorem test_pop_de : seen (fun t => (t.pair .de, t.cpu.sp, pace { cpu0 with sp := 0xFFFC } t)) (ran { cpu0 with sp := 0xFFFC } [0xD1] [(0xFFFC, 0x34), (0xFFFD, 0x12)]) =
    some (0x1234, 0xFFFE, (1, 3)) := by decide

theorem test_pop_af : seen (fun t => (t.cpu.a, t.cpu.f.toByte, t.cpu.sp, pace { cpu0 with sp := 0xCFFC } t)) (ran { cpu0 with sp := 0xCFFC } [0xF1] [(0xCFFC, 0x9F), (0xCFFD, 0x34)]) =
    some (0x34, 0x90, 0xCFFE, (1, 3)) := by decide

theorem test_add_a_b : seen (fun t => (t.cpu.a, t.cpu.f.toByte, pace { cpu0 with a := 0x3A, b := 0xC6 } t)) (ran { cpu0 with a := 0x3A, b := 0xC6 } [0x80]) =
    some (0x00, 0xB0, (1, 1)) := by decide

theorem test_add_a_mhl : seen (fun t => (t.cpu.a, t.cpu.f.toByte, pace { cpu0 with a := 0x3C, h := 0xC0, l := 0x00 } t)) (ran { cpu0 with a := 0x3C, h := 0xC0, l := 0x00 } [0x86] [(0xC000, 0x12)]) =
    some (0x4E, 0x00, (1, 2)) := by decide

theorem test_adc_a_e : seen (fun t => (t.cpu.a, t.cpu.f.toByte, pace { cpu0 with a := 0xE1, e := 0x0F, f := Flags.ofByte 0x10 } t)) (ran { cpu0 with a := 0xE1, e := 0x0F, f := Flags.ofByte 0x10 } [0x8B]) =
    some (0xF1, 0x20, (1, 1)) := by decide

theorem test_adc_a_n : seen (fun t => (t.cpu.a, t.cpu.f.toByte, pace { cpu0 with a := 0xFF, f := Flags.ofByte 0x10 } t)) (ran { cpu0 with a := 0xFF, f := Flags.ofByte 0x10 } [0xCE, 0x00]) =
    some (0x00, 0xB0, (2, 2)) := by decide

theorem test_sub_n : seen (fun t => (t.cpu.a, t.cpu.f.toByte, pace { cpu0 with a := 0x3E } t)) (ran { cpu0 with a := 0x3E } [0xD6, 0x0F]) =
    some (0x2F, 0x60, (2, 2)) := by decide

theorem test_sub_mhl : seen (fun t => (t.cpu.a, t.cpu.f.toByte, pace { cpu0 with a := 0x3E, h := 0xC0, l := 0x00 } t)) (ran { cpu0 with a := 0x3E, h := 0xC0, l := 0x00 } [0x96] [(0xC000, 0x40)]) =
    some (0xFE, 0x50, (1, 2)) := by decide

theorem test_sbc_a_h : seen (fun t => (t.cpu.a, t.cpu.f.toByte, pace { cpu0 with a := 0x3B, h := 0x2A, f := Flags.ofByte 0x10 } t)) (ran { cpu0 with a := 0x3B, h := 0x2A, f := Flags.ofByte 0x10 } [0x9C]) =
    some (0x10, 0x40, (1, 1)) := by decide

theorem test_sbc_a_n : seen (fun t => (t.cpu.a, t.cpu.f.toByte, pace { cpu0 with a := 0x00, f := Flags.ofByte 0x10 } t)) (ran { cpu0 with a := 0x00, f := Flags.ofByte 0x10 } [0xDE, 0x00]) =
    some (0xFF, 0x70, (2, 2)) := by decide

theorem test_and_n : seen (fun t => (t.cpu.a, t.cpu.f.toByte, pace { cpu0 with a := 0x5A } t)) (ran { cpu0 with a := 0x5A } [0xE6, 0x3F]) =
    some (0x1A, 0x20, (2, 2)) := by decide

theorem test_xor_a : seen (fun t => (t.cpu.a, t.cpu.f.toByte, pace { cpu0 with a := 0xFF, f := Flags.ofByte 0x70 } t)) (ran { cpu0 with a := 0xFF, f := Flags.ofByte 0x70 } [0xAF]) =
    some (0x00, 0x80, (1, 1)) := by decide

theorem test_xor_n : seen (fun t => (t.cpu.a, t.cpu.f.toByte, pace { cpu0 with a := 0xFF } t)) (ran { cpu0 with a := 0xFF } [0xEE, 0x0F]) =
    some (0xF0, 0x00, (2, 2)) := by decide

theorem test_or_n : seen (fun t => (t.cpu.a, t.cpu.f.toByte, pace { cpu0 with a := 0x5A } t)) (ran { cpu0 with a := 0x5A } [0xF6, 0x0F]) =
    some (0x5F, 0x00, (2, 2)) := by decide

theorem test_cp_n : seen (fun t => (t.cpu.a, t.cpu.f.toByte, pace { cpu0 with a := 0x3C } t)) (ran { cpu0 with a := 0x3C } [0xFE, 0x2F]) =
    some (0x3C, 0x60, (2, 2)) := by decide

theorem test_cp_n_borrow : seen (fun t => (t.cpu.a, t.cpu.f.toByte, pace { cpu0 with a := 0x3C } t)) (ran { cpu0 with a := 0x3C } [0xFE, 0x40]) =
    some (0x3C, 0x50, (2, 2)) := by decide

theorem test_inc_a : seen (fun t => (t.cpu.a, t.cpu.f.toByte, pace { cpu0 with a := 0xFF, f := Flags.ofByte 0x10 } t)) (ran { cpu0 with a := 0xFF, f := Flags.ofByte 0x10 } [0x3C]) =
    some (0x00, 0xB0, (1, 1)) := by decide

theorem test_inc_b : seen (fun t => (t.cpu.b, t.cpu.f.toByte, pace { cpu0 with b := 0x0F } t)) (ran { cpu0 with b := 0x0F } [0x04]) =
    some (0x10, 0x20, (1, 1)) := by decide

theorem test_inc_mhl : seen (fun t => (t.read 0xC000, t.cpu.f.toByte, pace { cpu0 with h := 0xC0, l := 0x00 } t)) (ran { cpu0 with h := 0xC0, l := 0x00 } [0x34] [(0xC000, 0x50)]) =
    some (0x51, 0x00, (1, 3)) := by decide

theorem test_dec_l : seen (fun t => (t.cpu.l, t.cpu.f.toByte, pace { cpu0 with l := 0x01 } t)) (ran { cpu0 with l := 0x01 } [0x2D]) =
    some (0x00, 0xC0, (1, 1)) := by decide

theorem test_dec_b : seen (fun t => (t.cpu.b, t.cpu.f.toByte, pace { cpu0 with b := 0x00, f := Flags.ofByte 0x10 } t)) (ran { cpu0 with b := 0x00, f := Flags.ofByte 0x10 } [0x05]) =
    some (0xFF, 0x70, (1, 1)) := by decide

theorem test_dec_mhl : seen (fun t => (t.read 0xC000, t.cpu.f.toByte, pace { cpu0 with h := 0xC0, l := 0x00 } t)) (ran { cpu0 with h := 0xC0, l := 0x00 } [0x35] [(0xC000, 0x10)]) =
    some (0x0F, 0x60, (1, 3)) := by decide

theorem test_add_hl_bc : seen (fun t => (t.pair .hl, t.cpu.f.toByte, pace { cpu0 with h := 0x8A, l := 0x23, b := 0x06, c := 0x05, f := Flags.ofByte 0x80 } t)) (ran { cpu0 with h := 0x8A, l := 0x23, b := 0x06, c := 0x05, f := Flags.ofByte 0x80 } [0x09]) =
    some (0x9028, 0xA0, (1, 2)) := by decide

theorem test_add_hl_hl : seen (fun t => (t.pair .hl, t.cpu.f.toByte, pace { cpu0 with h := 0x8A, l := 0x23 } t)) (ran { cpu0 with h := 0x8A, l := 0x23 } [0x29]) =
    some (0x1446, 0x30, (1, 2)) := by decide

theorem test_inc_de : seen (fun t => (t.pair .de, t.cpu.f.toByte, pace { cpu0 with d := 0xFF, e := 0xFF, f := Flags.ofByte 0xF0 } t)) (ran { cpu0 with d := 0xFF, e := 0xFF, f := Flags.ofByte 0xF0 } [0x13]) =
    some (0x0000, 0xF0, (1, 2)) := by decide

theorem test_dec_bc : seen (fun t => (t.pair .bc, t.cpu.f.toByte, pace { cpu0 with b := 0x00, c := 0x00, f := Flags.ofByte 0x50 } t)) (ran { cpu0 with b := 0x00, c := 0x00, f := Flags.ofByte 0x50 } [0x0B]) =
    some (0xFFFF, 0x50, (1, 2)) := by decide

theorem test_add_sp_e : seen (fun t => (t.cpu.sp, t.cpu.f.toByte, pace { cpu0 with sp := 0x0001 } t)) (ran { cpu0 with sp := 0x0001 } [0xE8, 0xFF]) =
    some (0x0000, 0x30, (2, 4)) := by decide

theorem test_add_sp_e_far : seen (fun t => (t.cpu.sp, t.cpu.f.toByte, pace { cpu0 with sp := 0x0000 } t)) (ran { cpu0 with sp := 0x0000 } [0xE8, 0x80]) =
    some (0xFF80, 0x00, (2, 4)) := by decide

theorem test_rlca : seen (fun t => (t.cpu.a, t.cpu.f.toByte, pace { cpu0 with a := 0x85 } t)) (ran { cpu0 with a := 0x85 } [0x07]) =
    some (0x0B, 0x10, (1, 1)) := by decide

theorem test_rlca_zero : seen (fun t => (t.cpu.a, t.cpu.f.toByte, pace { cpu0 with a := 0x00, f := Flags.ofByte 0xF0 } t)) (ran { cpu0 with a := 0x00, f := Flags.ofByte 0xF0 } [0x07]) =
    some (0x00, 0x00, (1, 1)) := by decide

theorem test_rrca : seen (fun t => (t.cpu.a, t.cpu.f.toByte, pace { cpu0 with a := 0x3B } t)) (ran { cpu0 with a := 0x3B } [0x0F]) =
    some (0x9D, 0x10, (1, 1)) := by decide

theorem test_rla : seen (fun t => (t.cpu.a, t.cpu.f.toByte, pace { cpu0 with a := 0x95, f := Flags.ofByte 0x10 } t)) (ran { cpu0 with a := 0x95, f := Flags.ofByte 0x10 } [0x17]) =
    some (0x2B, 0x10, (1, 1)) := by decide

theorem test_rra : seen (fun t => (t.cpu.a, t.cpu.f.toByte, pace { cpu0 with a := 0x81 } t)) (ran { cpu0 with a := 0x81 } [0x1F]) =
    some (0x40, 0x10, (1, 1)) := by decide

theorem test_daa_add : seen (fun t => (t.cpu.a, t.cpu.f.toByte, pace { cpu0 with a := 0x9A } t)) (ran { cpu0 with a := 0x9A } [0x27]) =
    some (0x00, 0x90, (1, 1)) := by decide

theorem test_daa_sub : seen (fun t => (t.cpu.a, t.cpu.f.toByte, pace { cpu0 with a := 0x4B, f := Flags.ofByte 0x60 } t)) (ran { cpu0 with a := 0x4B, f := Flags.ofByte 0x60 } [0x27]) =
    some (0x45, 0x40, (1, 1)) := by decide

theorem test_cpl : seen (fun t => (t.cpu.a, t.cpu.f.toByte, pace { cpu0 with a := 0x35, f := Flags.ofByte 0x90 } t)) (ran { cpu0 with a := 0x35, f := Flags.ofByte 0x90 } [0x2F]) =
    some (0xCA, 0xF0, (1, 1)) := by decide

theorem test_scf : seen (fun t => (t.cpu.f.toByte, pace { cpu0 with f := Flags.ofByte 0xE0 } t)) (ran { cpu0 with f := Flags.ofByte 0xE0 } [0x37]) =
    some (0x90, (1, 1)) := by decide

theorem test_ccf : seen (fun t => (t.cpu.f.toByte, pace { cpu0 with f := Flags.ofByte 0x90 } t)) (ran { cpu0 with f := Flags.ofByte 0x90 } [0x3F]) =
    some (0x80, (1, 1)) := by decide

theorem test_nop : seen (fun t => (t.cpu.a, t.cpu.f.toByte, pace { cpu0 with a := 0x01, f := Flags.ofByte 0xF0 } t)) (ran { cpu0 with a := 0x01, f := Flags.ofByte 0xF0 } [0x00]) =
    some (0x01, 0xF0, (1, 1)) := by decide

theorem test_di : seen (fun t => (t.cpu.ime, pace { cpu0 with ime := true } t)) (ran { cpu0 with ime := true } [0xF3]) =
    some (false, (1, 1)) := by decide

theorem test_ei : seen (fun t => (t.cpu.ime, pace cpu0 t)) (ran cpu0 [0xFB] [(0xFFFF, 0x01), (0xFF0F, 0x01)]) =
    some (true, (1, 1)) := by decide

theorem test_jp_nn : seen (fun t => (t.cpu.pc, (100 : Int) - t.cpu.credit)) (ran cpu0 [0xC3, 0x50, 0x01]) =
    some (0x0150, 4) := by decide

theorem test_jp_z_nn_not_taken : seen (fun t => (pace cpu0 t)) (ran cpu0 [0xCA, 0x50, 0x01]) =
    some ((3, 3)) := by decide

theorem test_jp_hl : seen (fun t => (t.cpu.pc, (100 : Int) - t.cpu.credit)) (ran { cpu0 with h := 0xC1, l := 0x23 } [0xE9]) =
    some (0xC123, 1) := by decide

theorem test_jr_e : seen (fun t => (t.cpu.pc, (100 : Int) - t.cpu.credit)) (ran { cpu0 with pc := 0xC000 } [0x18, 0x80]) =
    some (0xBF82, 3) := by decide

theorem test_jr_e_self : seen (fun t => (t.cpu.pc, (100 : Int) - t.cpu.credit)) (ran { cpu0 with pc := 0xC000 } [0x18, 0xFE]) =
    some (0xC000, 3) := by decide

theorem test_jr_nz_e_not_taken : seen (fun t => (pace { cpu0 with f := Flags.ofByte 0xC0 } t)) (ran { cpu0 with f := Flags.ofByte 0xC0 } [0x20, 0xFC]) =
    some ((2, 2)) := by decide

theorem test_call_nn : seen (fun t => (t.cpu.sp, t.read 0xFFFC, t.read 0xFFFD, t.cpu.pc, (100 : Int) - t.cpu.credit)) (ran { cpu0 with pc := 0x0200 } [0xCD, 0x34, 0x12]) =
    some (0xFFFC, 0x03, 0x02, 0x1234, 6) := by decide

theorem test_call_nc_nn_not_taken : seen (fun t => (t.cpu.sp, pace { cpu0 with f := Flags.ofByte 0x10 } t)) (ran { cpu0 with f := Flags.ofByte 0x10 } [0xD4, 0x34, 0x12]) =
    some (0xFFFE, (3, 3)) := by decide

theorem test_ret : seen (fun t => (t.cpu.pc, t.cpu.sp, (100 : Int) - t.cpu.credit)) (ran { cpu0 with sp := 0xFFFC } [0xC9] [(0xFFFC, 0x03), (0xFFFD, 0x02)]) =
    some (0x0203, 0xFFFE, 4) := by decide

theorem test_ret_nz_not_taken : seen (fun t => (t.cpu.sp, pace { cpu0 with sp := 0xFFFC, f := Flags.ofByte 0x80 } t)) (ran { cpu0 with sp := 0xFFFC, f := Flags.ofByte 0x80 } [0xC0]) =
    some (0xFFFC, (1, 2)) := by decide

theorem test_reti : seen (fun t => (t.cpu.pc, t.cpu.sp, t.cpu.ime, (100 : Int) - t.cpu.credit)) (ran { cpu0 with sp := 0xFFFC } [0xD9] [(0xFFFC, 0x03), (0xFFFD, 0x02)]) =
    some (0x0203, 0xFFFE, true, 4) := by decide

theorem test_rst_28 : seen (fun t => (t.cpu.sp, t.read 0xFFFC, t.read 0xFFFD, t.cpu.pc, (100 : Int) - t.cpu.credit)) (ran { cpu0 with pc := 0x0150 } [0xEF]) =
    some (0xFFFC, 0x51, 0x01, 0x0028, 4) := by decide

theorem test_rlc_b : seen (fun t => (t.cpu.b, t.cpu.f.toByte, pace { cpu0 with b := 0x85 } t)) (ran { cpu0 with b := 0x85 } [0xCB, 0x00]) =
    some (0x0B, 0x10, (2, 2)) := by decide

theorem test_rlc_b_zero : seen (fun t => (t.cpu.b, t.cpu.f.toByte, pace { cpu0 with b := 0x00, f := Flags.ofByte 0x10 } t)) (ran { cpu0 with b := 0x00, f := Flags.ofByte 0x10 } [0xCB, 0x00]) =
    some (0x00, 0x80, (2, 2)) := by decide

theorem test_rrc_e : seen (fun t => (t.cpu.e, t.cpu.f.toByte, pace { cpu0 with e := 0x01 } t)) (ran { cpu0 with e := 0x01 } [0xCB, 0x0B]) =
    some (0x80, 0x10, (2, 2)) := by decide

theorem test_rl_c : seen (fun t => (t.cpu.c, t.cpu.f.toByte, pace { cpu0 with c := 0x11, f := Flags.ofByte 0x10 } t)) (ran { cpu0 with c := 0x11, f := Flags.ofByte 0x10 } [0xCB, 0x11]) =
    some (0x23, 0x00, (2, 2)) := by decide

theorem test_rr_d : seen (fun t => (t.cpu.d, t.cpu.f.toByte, pace { cpu0 with d := 0x01 } t)) (ran { cpu0 with d := 0x01 } [0xCB, 0x1A]) =
    some (0x00, 0x90, (2, 2)) := by decide

theorem test_sla_b : seen (fun t => (t.cpu.b, t.cpu.f.toByte, pace { cpu0 with b := 0x80 } t)) (ran { cpu0 with b := 0x80 } [0xCB, 0x20]) =
    some (0x00, 0x90, (2, 2)) := by decide

theorem test_sra_b : seen (fun t => (t.cpu.b, t.cpu.f.toByte, pace { cpu0 with b := 0x8A } t)) (ran { cpu0 with b := 0x8A } [0xCB, 0x28]) =
    some (0xC5, 0x00, (2, 2)) := by decide

theorem test_swap_a : seen (fun t => (t.cpu.a, t.cpu.f.toByte, pace { cpu0 with a := 0xF1 } t)) (ran { cpu0 with a := 0xF1 } [0xCB, 0x37]) =
    some (0x1F, 0x00, (2, 2)) := by decide

theorem test_swap_mhl : seen (fun t => (t.read 0xC000, t.cpu.f.toByte, pace { cpu0 with h := 0xC0, l := 0x00, f := Flags.ofByte 0x70 } t)) (ran { cpu0 with h := 0xC0, l := 0x00, f := Flags.ofByte 0x70 } [0xCB, 0x36]) =
    some (0x00, 0x80, (2, 4)) := by decide

theorem test_srl_a : seen (fun t => (t.cpu.a, t.cpu.f.toByte, pace { cpu0 with a := 0x01 } t)) (ran { cpu0 with a := 0x01 } [0xCB, 0x3F]) =
    some (0x00, 0x90, (2, 2)) := by decide

theorem test_bit_7_h : seen (fun t => (t.cpu.f.toByte, pace { cpu0 with h := 0x80, f := Flags.ofByte 0x10 } t)) (ran { cpu0 with h := 0x80, f := Flags.ofByte 0x10 } [0xCB, 0x7C]) =
    some (0x30, (2, 2)) := by decide

theorem test_bit_0_mhl : seen (fun t => (t.cpu.f.toByte, t.read 0xC000, pace { cpu0 with h := 0xC0, l := 0x00 } t)) (ran { cpu0 with h := 0xC0, l := 0x00 } [0xCB, 0x46] [(0xC000, 0xFE)]) =
    some (0xA0, 0xFE, (2, 3)) := by decide

theorem test_res_3_a : seen (fun t => (t.cpu.a, t.cpu.f.toByte, pace { cpu0 with a := 0xFF, f := Flags.ofByte 0xF0 } t)) (ran { cpu0 with a := 0xFF, f := Flags.ofByte 0xF0 } [0xCB, 0x9F]) =
    some (0xF7, 0xF0, (2, 2)) := by decide

theorem test_set_7_mhl : seen (fun t => (t.read 0xC000, t.cpu.f.toByte, pace { cpu0 with h := 0xC0, l := 0x00 } t)) (ran { cpu0 with h := 0xC0, l := 0x00 } [0xCB, 0xFE]) =
    some (0x80, 0x00, (2, 4)) := by decide

/-- A taken conditional leaves its continuation in the queue (R272, R275, R277, R279, R312). -/
theorem test_taken : seen (fun t => (t.cpu.queue, t.cpu.credit)) (ran { cpu0 with f := Flags.ofByte 0x80 } [0xCA, 0x50, 0x01]) =
      some (some (.jumpTo .z 0x0150), 97) ∧
    seen (fun t => (t.cpu.queue, t.cpu.credit)) (ran cpu0 [0x20, 0xFC]) = some (some (.jumpBy .nz 0xFC), 98) ∧
    seen (fun t => (t.cpu.queue, t.cpu.credit)) (ran cpu0 [0xD4, 0x34, 0x12]) = some (some (.callTo .nc 0x1234), 97) ∧
    seen (fun t => (t.cpu.queue, t.cpu.credit)) (ran cpu0 [0xC0]) = some (some (.ret .nz), 98) := by decide

/-- The continuations: `JR NZ,-4` at 0xC006 ends at 0xC004 (R275), `CALL NC` pushes the address after it (R277). -/
theorem test_continuations :
    seen (fun t => (t.cpu.pc, t.cpu.credit)) (ran { cpu0 with pc := 0xC008, queue := some (.jumpBy .nz 0xFC) } []) =
      some (0xC004, 99) ∧
    seen (fun t => (t.cpu.pc, t.read 0xFFFC, t.read 0xFFFD, t.cpu.credit))
      (ran { cpu0 with pc := 0x0203, queue := some (.callTo .nc 0x1234) } []) = some (0x1234, 0x03, 0x02, 97) := by decide

/-- `HALT` (R259): it ends in its first M-cycle where something enabled is pending, and waits where nothing is. -/
theorem test_halt :
    seen (fun t => (t.cpu.queue, t.read 0xFF0F, pace cpu0 t)) (ran cpu0 [0x76] [(0xFFFF, 0x01), (0xFF0F, 0x01)]) =
      some (none, 0x01, (1, 1)) ∧
    seen (fun t => (t.cpu.queue, pace cpu0 t)) (ran cpu0 [0x76] [(0xFF0F, 0x1F)]) = some (some .haltWait, (1, 1)) := by
  decide

/-- `STOP` (R260) under the three values of the parameter, and under its default. -/
theorem test_stop :
    (step { machine cpu0 (codeAt 0xC800 [0x10, 0x00]) with params := { Config.resetParams with stop := .refuse } } matches
      .fault (.instructionNotImplemented 0x10)) = true ∧
    seen (fun t => (t.cpu.queue, pace cpu0 t))
      (step { machine cpu0 (codeAt 0xC800 [0x10, 0x00]) with params := { Config.resetParams with stop := .nop2 } }) =
      some (none, (2, 1)) ∧
    seen (fun t => (t.cpu.queue, pace cpu0 t))
      (step { machine cpu0 (codeAt 0xC800 [0x10, 0x00]) with params := { Config.resetParams with stop := .waitJoypad } }) =
      some (some .stopWait, (2, 1)) ∧
    (ran cpu0 [0x10, 0x00] matches .fault (.instructionNotImplemented 0x10)) = true := by decide

/-- The unmapped byte 0xDD (R331) ends the run. -/
theorem test_illegal_dd : (ran cpu0 [0xDD] matches .fault (.instructionNotFound 0xDD false)) = true := by decide

/-- The prefix byte as a row of its own (R138): the byte at `PC` is fetched and its Command queued, at no cost. -/
theorem test_prefix_cb : seen (fun t => (t.cpu.queue, pace cpu0 t)) (exec .prefix_cb (machine cpu0 [(0xC800, 0x7C)])) =
    some (some (.exec .bit_7_h), (1, 0)) := by decide

/-! ### The machine (95_test_vectors.md, section 4) -/

/-- I1 and I5: the lowest enabled pending bit is served, its `IF` bit cleared, 5 M-cycles (R321, R322). -/
theorem test_interrupt_I1 :
    seen (fun t => ((t.cpu.sp, t.read 0xFFFC, t.read 0xFFFD, t.read 0xFF0F), t.cpu.ime, t.cpu.pc, t.cpu.credit))
      (ran { cpu0 with pc := 0x1234, ime := true, credit := 10 } [] [(0xFFFF, 0x05), (0xFF0F, 0x05)]) =
    some ((0xFFFC, 0x34, 0x12, 0x04), false, 0x0040, 5) := by decide

theorem test_interrupt_I5 :
    seen (fun t => (t.read 0xFF0F, t.cpu.pc)) (ran { cpu0 with ime := true } [] [(0xFFFF, 0x1F), (0xFF0F, 0x1A)]) =
    some (0x18, 0x0048) := by decide

/-- I2 and I3: only bits 4 to 0 count, and only with `IME` (R320). -/
theorem test_interrupt_none :
    seen (fun t => t.cpu.pc) (ran { cpu0 with ime := true } [] [(0xFFFF, 0xFF), (0xFF0F, 0xE0)]) = some 0xC801 ∧
    seen (fun t => t.cpu.pc) (ran cpu0 [] [(0xFFFF, 0x01), (0xFF0F, 0x01)]) = some 0xC801 := by decide

/-- Stored through the bus. -/
def put (s : State) (a : Word) (v : Byte) : State := (seen id (s.writeByte a v)).getD s

/-- An MBC1 cartridge of eight ROM banks with 2 KB of RAM, each bank's first byte its number. -/
def mbc1 : State := { machine cpu0 [] with
  cart := Cartridge.build 0x20000 [(0x0147, 1), (0x0149, 1), (0x4000, 1), (0x8000, 2), (0x14000, 5), (0x1C000, 7)] }

/-- M6 to M8: the RAM gate, and the mirror of a 2 KB RAM (R87, R88). -/
theorem test_mbc1_ram :
    (put mbc1 0xA000 0x42).read 0xA000 = 0xFF ∧
    (put (put mbc1 0x0000 0x0A) 0xA000 0x42).read 0xA800 = 0x42 ∧
    (put (put (put mbc1 0x0000 0x0A) 0xA000 0x42) 0x1FFF 0x1B).read 0xA000 = 0xFF := by decide

/-- M9 and S2: the ROM bank register, 0 counting as 1 (R89, R92). -/
theorem test_mbc1_rom :
    (put mbc1 0x2100 0x21).read 0x4000 = 1 ∧ (put mbc1 0x2000 0x05).read 0x4000 = 5 ∧
    (put mbc1 0x2000 0x00).read 0x4000 = 1 ∧ (put mbc1 0x3FFF 0x07).read 0x4000 = 7 := by decide

/-- The bank indexes a missing bank's fault carries. -/
def missingBank : Option Fault → Option (Nat × Nat)
  | some (.bankOutOfRange c) => some (c.romIndex, c.ramBank.toNat)
  | _ => none

/-- M10 and M11: a bank beyond the last one ends the run (R92). -/
theorem test_mbc1_out_of_range :
    missingBank (mbc1.writeFault 0x2000 0x08) = some (7, 0) ∧
    missingBank (mbc1.writeFault 0x4000 0x01) = some (32, 0) ∧ mbc1.writeFault 0x2000 0x07 = none := by decide

/-- M2 to M4: the echo wraps over 4 KB and 0xD000 is mirrored nowhere (R82, R83). -/
theorem test_echo :
    (put (machine cpu0 []) 0xC123 0x5A).read 0xE123 = 0x5A ∧ (put (machine cpu0 []) 0xF000 0x77).read 0xC000 = 0x77 ∧
    (put (machine cpu0 []) 0xD000 0x11).read 0xF000 = 0x00 ∧ (put (machine cpu0 []) 0xD000 0x11).read 0xD000 = 0x11 := by
  decide

/-- M1 and S8: the BIOS is read-only, and a non-zero byte at 0xFF50 removes it (R63, R81, R96). -/
theorem test_bios : let s : State := { mbc1 with
      biosMapped := true, bios := [(0x00, 0x31)], cart := Cartridge.build 0x8000 [(0x0000, 0xC3)] }
    s.read 0 = 0x31 ∧ (put s 0 0xAA).read 0 = 0x31 ∧ (put s 0xFF50 0).read 0 = 0x31 ∧ (put s 0xFF50 1).read 0 = 0xC3 := by
  decide

/-- M13: an unsupported cartridge leaves its addresses to the catch-all (R93). -/
theorem test_inert : let s : State := { machine cpu0 [] with cart := Cartridge.build 0x8000 [(0x0147, 5), (0x0150, 9)] }
    s.read 0x0150 = 0 ∧ (put s 0x0150 9).read 0x0150 = 9 := by decide

/-- S9 and T6, T7: overflow reloads and requests in the same unit (R344); `DIV` wraps without a request (R342). -/
theorem test_timer :
    (let t := timerUnit (machine cpu0 [(0xFF07, 0x05), (0xFF06, 0x10), (0xFF05, 0xFF)])
     (t.read 0xFF05 = 0x10 ∧ t.read 0xFF0F = 0x04)) ∧
    (let t := timerUnit { machine cpu0 [(0xFF04, 0xFF)] with timer := { divAcc := 15, timaAcc := 0 } }
     (t.read 0xFF04 = 0 ∧ t.timer.divAcc = 0 ∧ t.read 0xFF0F = 0)) := by decide

/-- T4 and T5: the threshold of select 3 is 16 (R341), and a disabled counter stands still (R343). -/
theorem test_timer_select :
    (let t := timerUnit { machine cpu0 [(0xFF07, 0x07), (0xFF05, 0xFE)] with timer := { divAcc := 0, timaAcc := 15 } }
     (t.read 0xFF05 = 0xFF ∧ t.timer.timaAcc = 0)) ∧
    (let t := timerUnit { machine cpu0 [(0xFF07, 0x03), (0xFF05, 0x55)] with timer := { divAcc := 0, timaAcc := 7 } }
     (t.read 0xFF05 = 0x55 ∧ t.timer.timaAcc = 7 ∧ t.timer.divAcc = 1)) := by decide

/-- V4: a `STAT` write keeps the PPU's bits and requests nothing (R364). -/
theorem test_stat_write :
    let s : State := { machine cpu0 [] with ppu := { Ppu.reset with mode := .vBlank } }
    (put s 0xFF41 0xFF).read 0xFF41 = 0xF9 ∧ (put s 0xFF41 0xFF).read 0xFF0F = 0 := by decide

/-- V3: the coincidence on reaching `LYC` (R362), and V2's entry into V-Blank (R358). -/
theorem test_ppu_lines :
    (let t := hBlankStep { machine cpu0 [(0xFF41, 0x40), (0xFF45, 0x05)] with ppu := { Ppu.reset with ly := 4 } }
     (t.read 0xFF41 = 0x44 ∧ t.read 0xFF44 = 5 ∧ t.read 0xFF0F = 0x02)) ∧
    (let t := vBlankStep { machine cpu0 [] with ppu := { Ppu.reset with ly := 144 } }
     (t.ppu.ly = 145 ∧ t.read 0xFF41 = 0x01 ∧ t.read 0xFF0F = 0x01 ∧ t.ppu.framesReady = 1)) := by decide

/-- The picture memory of V6 and V8. -/
def picture (attr y : Byte) : State := machine cpu0
  [(0x8000, 0x80), (0x8010, 0xFF), (0x8011, 0xFF), (0xFE00, y), (0xFE01, 8), (0xFE02, 1), (0xFE03, attr),
   (0xFF40, 0x93), (0xFF47, 0xE4), (0xFF48, 0xE4)]

/-- V8: the object over the background, behind it, and off the line (R359, R360). -/
theorem test_pixels :
    [0, 1, 8, 9].map ((picture 0x00 16).pixel · 0) = [3, 3, 1, 0] ∧ [0, 1].map ((picture 0x80 16).pixel · 0) = [1, 3] ∧
    [0, 1].map ((picture 0x00 15).pixel · 0) = [1, 0] ∧ (picture 0x00 8).selected 0 = [] := by decide

set_option maxRecDepth 4000 in
/-- Q1: 160 copies are queued, the first from 0xC000 (R97). -/
theorem test_dma : let s := put (machine cpu0 []) 0xFF46 0xC0
    s.dmaQueue.length = 160 ∧ s.dmaQueue.head? = some { src := 0xC000, dst := 0xFE00 } ∧ s.read 0xFF46 = 0xC0 := by decide

/-- How a program comes to run (log 13): the step after `withFetchWord` runs that instruction, from reset too. -/
theorem test_withFetchWord :
    seen (fun t => (t.cpu.pc, t.cpu.credit)) (step (State.reset.withFetchWord 8 0xC3)) = some (0x0000, 110) ∧
    seen (fun t => (t.cpu.pc, t.cpu.credit)) (step (State.reset.withFetchWord 16 0x7CCB)) = some (0x0002, 112) := by decide

/-- R432: the small machine with other costs for `NOP` and `CALL NC`, whose `NOP` pays 3 and whose taken call 2 more. -/
def dear : State := { machine cpu0 [] with params := { Config.resetParams with
  costs := [{ prefixed := false, opcode := 0x00, cost := 3, takenExtra := 0 },
            { prefixed := false, opcode := 0xD4, cost := 4, takenExtra := 2 }] } }

theorem test_costs :
    seen (pace cpu0) (step dear) = some (1, 3) ∧
    seen (fun t => (t.cpu.queue, t.cpu.credit)) (step { dear with mem := [(0xC800, 0xD4), (0xC801, 0x34), (0xC802, 0x12)] }) =
      some (some (.callTo .nc 0x1234), 96) ∧
    seen (fun t => (t.cpu.pc, t.cpu.credit)) (step { dear with cpu := { cpu0 with queue := some (.callTo .nc 0x1234) } }) =
      some (0x1234, 98) := by decide

/-- R313: `LD (HL),n` cut into M-cycles stores in the third of them. -/
def sliced : State := { machine { cpu0 with h := 0xC0, l := 0x00 } [(0xC800, 0x36), (0xC801, 0x07)] with
  params := { Config.resetParams with
    partition := [{ prefixed := false, opcode := 0x36, lead := [1, 1], takenLead := [] }] } }

theorem test_partition :
    seen (fun t => (t.cpu.queue, t.cpu.pc, t.cpu.credit, t.read 0xC000)) (step sliced) =
      some (some (.after 1 (.exec (.ld_mhl_n 0x07))), 0xC802, 99, 0x00) ∧
    seen (fun t => (t.cpu.queue, t.cpu.credit, t.read 0xC000))
      (step { sliced with cpu := { sliced.cpu with queue := some (.exec (.ld_mhl_n 0x07)), credit := 98 } }) =
      some (none, 97, 0x07) := by decide

/-- R92 under `mask`: of eight banks, number 8 shows bank 0 and number 13 bank 5; the run goes on. -/
theorem test_bankOor_mask : let s : State := { mbc1 with params := { Config.resetParams with bankOor := .mask } }
    s.writeFault 0x2000 0x08 = none ∧ (put s 0x2000 0x08).place 0x4000 = .rom 0 ∧
    (put s 0x2000 0x0D).read 0x4000 = 5 := by decide

/-- R421: the carried half unit. -/
theorem test_budgets : [0, 1, 2, 153].map (Config.budgetAt [28, 29]) = [28, 29, 28, 29] ∧
    [0, 1, 153].map (Config.budgetAt [28]) = [28, 28, 28] := by decide

/-- R401: a Cartridge with a byte in its RAM and bank 5 selected, taken out for a new one and put back, and one put
back after the fault of its own bank select: RAM and registers survive, the rest is reset. -/
theorem test_swap : let s := put (put (put mbc1 0x0000 0x0A) 0xA000 0x42) 0x2000 0x05
    let back := hostActions [.insert 0x8000 [], .putBack 0] s
    seen (fun t => (decide (t.cart = s.cart), t.shelf.length, t.cpu.pc, t.biosMapped)) back = some (true, 1, 0x0000, true) ∧
    seen (fun t => (t.read 0xA000, t.read 0x4000)) back = some (0x42, 0x05) ∧
    (recover s (.instructionNotFound 0xDD false) (.joypad 0xFF) matches .fault (.instructionNotFound 0xDD false)) = true ∧
    seen (fun t => (t.read 0xA000, t.read 0x4000)) (recover s (.instructionNotFound 0xDD false) .reinsert) =
      some (0x42, 0x05) := by
  decide

/-! ### Witnesses: for each statement with hypotheses, a state that meets them -/

/-- The small machine's memory is in canonical form. -/
theorem machine_memoryInv (k : Cpu) (bytes : List Host.Cell) : (machine k bytes).MemoryInv := by
  refine ⟨?_, rfl, fun c h => (nomatch h), fun xs h => (nomatch h), fun c h => (nomatch h)⟩
  show Memory.wf (bytes.foldr (fun c m => Memory.write m c.1 c.2) []) = true
  induction bytes with
  | nil => rfl
  | cons c rest ih => exact Memory.wf_write _ _ ih

/-- The machine with the Clock elsewhere keeps it. -/
theorem memoryInv_elsewhere {s t : State} (h : s.MemoryInv) (e : t = { s with
    cpu := t.cpu, ppu := t.ppu, timer := t.timer, clock := t.clock, dmaQueue := t.dmaQueue }) : t.MemoryInv := by
  rw [e]; exact h.of_eq rfl rfl rfl rfl rfl

/-- The machine inside `PPU.run`, at this step of this line. -/
def atPpu (n : PpuStep) (ly : Byte) : State := { machine cpu0 [(0xFF40, 0x80)] with
  ppu := { Ppu.reset with lcdOn := true, ly := ly, nextStep := n, credit := 228 }
  clock := { phase := .ppu, slice := 0 } }

theorem witness_DecodeEncodeRoundTrip : Instr.wf (.jp_nn 0xFFFF) = true ∧ Instr.wf .set_7_a = true := by decide

theorem witness_EncodeDecodeRoundTrip :
    (∃ i rest, decode [0xCB, 0xCB, 0x07] = .ok (i, rest)) ∧ (∃ x, decode [] = .error x) ∧
    ∃ x, decode [0xC3, 0x00] = .error x :=
  ⟨⟨_, _, rfl⟩, ⟨_, rfl⟩, ⟨_, rfl⟩⟩

theorem witness_LoadRegister : Oct.o0.opnd = .reg .b ∧ Oct.o7.opnd = .reg .a := ⟨rfl, rfl⟩

/-- A store that goes through, and one that ends the run. -/
theorem witness_ByteStores :
    (Oct.o7.opnd = .reg .a ∧ (machine cpu0 []).writeFault 0xFFFF 0xFF = none ∧ mbc1.writeFault 0x2000 0x07 = none) ∧
    missingBank (mbc1.writeFault 0x2000 0x08) = some (7, 0) := by decide

theorem witness_WordStores :
    ((machine cpu0 []).writeFault 0xFFFF 0x34 = none ∧
      ((machine cpu0 []).written 0xFFFF 0x34).writeFault 0x0000 0x12 = none) ∧
    missingBank (mbc1.writeFault 0x2000 (lo 0x0008)) = some (7, 0) ∧
    (mbc1.writeFault 0x1FFF (lo 0x0800) = none ∧
      missingBank ((mbc1.written 0x1FFF (lo 0x0800)).writeFault 0x2000 (hi 0x0800)) = some (7, 0)) := by decide

theorem witness_BitwiseLogic : ∃ (s : State) (x : AluSource) (r : Byte), s.cpu.a = 0x5A ∧
    (∀ j : Nat, r.getLsbD j = (s.cpu.a.getLsbD j && (x.value s).getLsbD j)) ∧
    ∃ r' : Byte, ∀ j : Nat, r'.getLsbD j = (s.cpu.a.getLsbD j != (x.value s).getLsbD j) :=
  ⟨machine { cpu0 with a := 0x5A } [], .imm 0x3F, 0x5A &&& 0x3F, rfl, fun _ => BitVec.getLsbD_and,
    0x5A ^^^ 0x3F, fun _ => BitVec.getLsbD_xor⟩

theorem witness_IncrementByte : Oct.o5.opnd = .reg .l ∧ Oct.o6.opnd = .mhl := ⟨rfl, rfl⟩

/-- The lowest pending bit, and the highest one alone. -/
theorem witness_EnableInterrupts :
    (let s := machine cpu0 [(0xFFFF, 0x1F), (0xFF0F, 0xE5)]
     s.clock.phase = .cpu ∧ s.cpu.queue = none ∧ 1 < s.cpu.credit ∧
     (s.read 0xFFFF &&& s.read 0xFF0F).getLsbD 0 = true) ∧
    (let s := machine cpu0 [(0xFFFF, 0xFF), (0xFF0F, 0xF0)]
     (s.read 0xFFFF &&& s.read 0xFF0F).getLsbD 4 = true ∧
     ∀ j : Nat, j < 4 → (s.read 0xFFFF &&& s.read 0xFF0F).getLsbD j = false) := by decide

theorem witness_HaltWaits : (machine cpu0 []).cpu.queue = none := rfl

theorem witness_HaltUsesUpTheCredit : let s := machine { cpu0 with queue := some .haltWait, credit := 114 } []
    s.clock.phase = .cpu ∧ s.cpu.queue = some .haltWait ∧ s.pending = 0 ∧ s.firstCost .halt = 1 ∧ s.cpu.credit = (114 : Nat) := by decide

theorem witness_StopByParameter : ∀ x : Config.StopBehaviour, ∃ s : State, s.cpu.queue = none ∧ s.params.stop = x :=
  fun x => ⟨{ machine cpu0 [] with params := { Config.resetParams with stop := x } }, rfl, rfl⟩

theorem witness_ConditionalTransfers : let s := machine cpu0 []
    s.cpu.queue = none ∧ (s.setSp (s.cpu.sp - 2)).writeFault (s.cpu.sp - 2) (lo s.cpu.pc) = none ∧
    ((s.setSp (s.cpu.sp - 2)).written (s.cpu.sp - 2) (lo s.cpu.pc)).writeFault (s.cpu.sp - 1) (hi s.cpu.pc) = none := by
  decide

theorem witness_RotatesAndShifts : Oct.o7.opnd = .reg .a ∧ Oct.o6.opnd = .mhl := ⟨rfl, rfl⟩

theorem witness_BitOperations : ∃ (s : State) (v : Byte), s.opnd (Oct.opnd .o7) = 0xFF ∧
    ∀ k : Nat, k < 8 → v.getLsbD k = if k = Oct.val .o7 then false else (s.opnd (Oct.opnd .o7)).getLsbD k :=
  ⟨machine { cpu0 with a := 0xFF } [], 0x7F, rfl, by decide⟩

/-- An instruction and a Command that go on, the reset parameters, and rows in second place of each parameter. -/
theorem witness_EveryInstructionPaysItsCost :
    (∃ t, exec .ei (machine cpu0 []) = .next t) ∧
    (∃ t, runCommand (.after 1 .haltWait) ((machine cpu0 []).settle (.after 1 .haltWait)) = .next t) ∧
    (machine cpu0 []).params.costs = [] ∧ (machine cpu0 []).params.partition = [] ∧
    (∃ r q, dear.params.costs = [q] ++ r :: [] ∧ r.prefixed = false ∧
      (q.prefixed, q.opcode) ≠ (r.prefixed, r.opcode) ∧ r.opcode ≠ 0xCB ∧
      (encode (.call_nc_nn 0x1234)).head? = some r.opcode) ∧
    ∃ r, sliced.params.partition = [] ++ r :: [] ∧ r.prefixed = false ∧ r.opcode ≠ 0xCB ∧
      (encode (.ld_mhl_n 0x07)).head? = some r.opcode ∧ (Instr.ld_mhl_n 0x07).cost ≠ 0 ∧
      r.lead.sum ≤ sliced.firstCost (.ld_mhl_n 0x07) := by
  refine ⟨⟨_, rfl⟩, ⟨_, rfl⟩, rfl, rfl, ⟨_, _, rfl, rfl, by decide, by decide, by decide⟩,
    ⟨_, rfl, rfl, by decide, by decide, by decide, by decide⟩⟩

theorem witness_OnlyStoresTouchTheMachine : ∃ t, exec .ld_b_c (machine cpu0 []) = .next t ∧ Instr.stores .ld_b_c = false :=
  ⟨_, rfl, rfl⟩

theorem witness_WhoChangesWhat : ∃ t, exec .scf (machine cpu0 []) = .next t ∧ Instr.transfers .scf = false ∧
    t.cpu.f ≠ (machine cpu0 []).cpu.f := ⟨_, rfl, rfl, by decide⟩

theorem fetching_machine (bytes : List Host.Cell) : (machine cpu0 bytes).Fetching :=
  ⟨rfl, show (0 : Int) < 100 by decide, rfl, rfl⟩

theorem witness_StepRunsTheDecodedInstruction :
    (let s := machine cpu0 [(0xC800, 0x3E), (0xC801, 0x05)]
     s.Fetching ∧
       decode [s.read s.cpu.pc, s.read (s.cpu.pc + 1), s.read (s.cpu.pc + 2)] = .ok (.ld_a_n 0x05, [0x00]) ∧
       s.params.costs = [] ∧ s.params.partition = [] ∧ s.lead (.exec (.ld_a_n 0x05)) = []) ∧
    (sliced.Fetching ∧
      decode [sliced.read 0xC800, sliced.read 0xC801, sliced.read 0xC802] = .ok (.ld_mhl_n 0x07, [0x00]) ∧
      sliced.cpu.pc = 0xC800 ∧ sliced.lead (.exec (.ld_mhl_n 0x07)) = 1 :: [1]) ∧
    State.reset.clock.phase = .cpuCall :=
  ⟨⟨fetching_machine _, rfl, rfl, rfl, rfl⟩, ⟨⟨rfl, show (0 : Int) < 100 by decide, rfl, rfl⟩, rfl, rfl, rfl⟩, rfl⟩

theorem witness_RunLoop :
    (machine { cpu0 with credit := 0 } []).cpu.credit ≤ 0 ∧
    (∃ c, (machine { cpu0 with queue := some (.ret .nz) } []).cpu.queue = some c) ∧
    (let s := machine { cpu0 with ime := true } [(0xFFFF, 0x1F), (0xFF0F, 0x10)]
     s.cpu.ime = true ∧ (s.read 0xFFFF).getLsbD 4 = true ∧ (s.read 0xFF0F).getLsbD 4 = true ∧
       ∀ j : Nat, j < 4 → (s.read 0xFF0F).getLsbD j = false) ∧
    (machine cpu0 []).cpu.ime = false := by
  refine ⟨by decide, ⟨_, rfl⟩, ⟨rfl, by decide, by decide, by decide⟩, rfl⟩

theorem witness_InterruptEntry : let s := machine cpu0 []
    s.writeFault (s.cpu.sp - 2) (lo s.cpu.pc) = none ∧
    (s.written (s.cpu.sp - 2) (lo s.cpu.pc)).writeFault (s.cpu.sp - 1) (hi s.cpu.pc) = none := by decide

theorem witness_UnmappedBytesAreFatal : (machine cpu0 [(0xC800, 0xD3)]).Fetching ∧
    (machine cpu0 [(0xC800, 0xD3)]).read (machine cpu0 [(0xC800, 0xD3)]).cpu.pc ∈ unmappedBytes :=
  ⟨fetching_machine _, by decide⟩

/-- Each of the four ways a run can end does occur. -/
theorem witness_HowARunEnds :
    (ran cpu0 [0xFD] matches .fault (.instructionNotFound 0xFD false)) = true ∧
    (step { machine cpu0 [(0xC800, 0x10)] with params := { Config.resetParams with stop := .refuse } } matches
      .fault (.instructionNotImplemented 0x10)) = true ∧
    (step { mbc1 with cpu := { cpu0 with h := 0x20, b := 8 }, mem := [(0xC800, 0x70)] } matches
      .fault (.bankOutOfRange _)) = true ∧
    (step { machine cpu0 [] with
      clock := { phase := .timer 0, slice := 153 }, hostInput := [[.insert 0x7FFF []]] } matches
      .refused (.cartridgeRefused 0x7FFF)) = true := by decide

theorem witness_PlainStore : (machine cpu0 []).MemoryInv ∧ plainAddress 0x8000 = true ∧ plainAddress 0xFFFF = true ∧
    (∀ c : Cartridge, (machine cpu0 []).cart = some c → c.kind = .inert) ∧
    (∃ i, (mbc1.written 0 0x0A).place 0xA000 = .cartRam i) ∧ plainAddress 0xA000 = true :=
  ⟨machine_memoryInv _ _, by decide, by decide, fun _ h => (nomatch h), ⟨0, by decide⟩, by decide⟩

theorem witness_AddressMap :
    (State.reset.biosMapped = true ∧ (0x00FF : Word).toNat ≤ 0xFF) ∧
    (∃ c, mbc1.cart = some c ∧ c.kind ≠ .inert ∧ mbc1.biosMapped = false) ∧
    mbc1.place 0x00FF = .rom 0x00FF ∧ mbc1.place 0x7FFF = .rom 0x7FFF ∧ mbc1.place 0x9FFF = .ram 0x9FFF ∧
    mbc1.place 0xBFFF = .disabled ∧ mbc1.place 0xDFFF = .ram 0xDFFF ∧ mbc1.place 0xFDFF = .ram 0xCDFF ∧
    (∃ c, mbc1.cart = some c ∧ c.kind = .mbc1 ∧ c.romLow ≠ 0) ∧
    ∃ c : Cartridge, Cartridge.build 0x8000 [] = some c ∧ c.kind = .mbc0 :=
  ⟨⟨rfl, by decide⟩, ⟨_, rfl, by decide, rfl⟩, by decide, by decide, by decide, by decide, by decide, by decide,
    ⟨_, rfl, rfl, by decide⟩, ⟨_, rfl, rfl⟩⟩

theorem witness_WordRoundTrip : (machine cpu0 []).MemoryInv ∧ plainAddress 0xCFFF = true ∧ plainAddress 0xD000 = true ∧
    ((machine cpu0 []).place 0xCFFF).writable = true ∧ ((machine cpu0 []).place 0xD000).writable = true :=
  ⟨machine_memoryInv _ _, by decide, by decide, by decide, by decide⟩

theorem witness_CartridgeRegisters :
    (∃ c, mbc1.cart = some c ∧ c.kind = .mbc1 ∧ c.mode = false) ∧
    (∃ c, (mbc1.written 0x6000 1).cart = some c ∧ c.kind = .mbc1 ∧ c.mode = true) ∧
    ∃ s : State, ∃ c, s.cart = some c ∧ c.kind = .mbc0 ∧ s.biosMapped = true :=
  ⟨⟨_, rfl, rfl, rfl⟩, ⟨_, rfl, rfl, rfl⟩,
    { mbc1 with biosMapped := true, cart := Cartridge.build 0x8000 [] }, _, rfl, rfl, rfl⟩

theorem witness_BiosDisable : (0x01 : Byte) ≠ 0 ∧ (∃ c, mbc1.cart = some c ∧ c.kind ≠ .inert) ∧
    (machine cpu0 []).cart = none ∧ ∃ s t : State, s.biosMapped = false ∧ step s = .next t ∧
      s.clock.phase = .timer 0 ∧ (s.clock.slice + 1) % 154 = 0 :=
  ⟨by decide, ⟨_, rfl, by decide⟩, rfl,
    { machine cpu0 [] with biosMapped := false, clock := { phase := .timer 0, slice := 153 } }, _, rfl, rfl, rfl, rfl⟩

theorem witness_DividerAndStatWrites : (machine cpu0 []).MemoryInv := machine_memoryInv _ _

theorem witness_LycWrite : (machine cpu0 [(0xFF41, 0x40)]).MemoryInv := machine_memoryInv _ _

theorem witness_LcdEnable : (atPpu .oamScan 0).MemoryInv ∧ (atPpu .oamScan 0).ppu.lcdOn = true ∧
    (0x7F : Byte).getLsbD 7 = false ∧ (machine cpu0 []).MemoryInv ∧ (machine cpu0 []).ppu.lcdOn = false ∧
    (0x80 : Byte).getLsbD 7 = true :=
  ⟨memoryInv_elsewhere (machine_memoryInv _ _) rfl, rfl, by decide, machine_memoryInv _ _, rfl, by decide⟩

theorem witness_DmaCopiesOneByte : (∃ s : State, s.clock.phase = .mmu 0) ∧ ∃ s : State, s.clock.phase = .mmu 114 ∧
    s.dmaQueue = [{ src := 0xC09F, dst := 0xFE9F }] ∧ 0xFE00 ≤ (0xFE9F : Word).toNat ∧ (0xFE9F : Word).toNat ≤ 0xFE9F :=
  ⟨⟨{ machine cpu0 [] with clock := { phase := .mmu 0, slice := 0 } }, rfl⟩,
    { machine cpu0 [] with dmaQueue := [{ src := 0xC09F, dst := 0xFE9F }], clock := { phase := .mmu 114, slice := 0 } },
    rfl, rfl, by decide, by decide⟩

theorem witness_TimerCounts : ∃ s : State, s.MemoryInv ∧ s.clock.phase = .timer (27 + 1) :=
  ⟨{ machine cpu0 [(0xFF07, 0x05), (0xFF05, 0xFF)] with clock := { phase := .timer 28, slice := 0 } },
    memoryInv_elsewhere (machine_memoryInv _ _) rfl, rfl⟩

theorem witness_PpuDrawsALine : ∀ n : PpuStep, (atPpu n 143).MemoryInv ∧ (atPpu n 143).clock.phase = .ppu ∧
    0 < (atPpu n 143).ppu.credit ∧ (atPpu n 143).ppu.nextStep = n ∧ (atPpu n 143).ppu.ly.toNat < 144 :=
  fun _ => ⟨memoryInv_elsewhere (machine_memoryInv _ _) rfl, rfl, show (0 : Int) < 228 by decide, rfl,
    show (143 : Byte).toNat < 144 by decide⟩

theorem witness_PpuHBlank : (atPpu .hBlank 143).MemoryInv ∧ (atPpu .hBlank 143).ppu.nextStep = .hBlank ∧
    (atPpu .hBlank 143).ppu.ly.toNat < 144 :=
  ⟨memoryInv_elsewhere (machine_memoryInv _ _) rfl, rfl, by decide⟩

theorem witness_PpuVBlank : ∀ ly : Byte, (atPpu .vBlank ly).MemoryInv ∧ (atPpu .vBlank ly).ppu.nextStep = .vBlank ∧
    (atPpu .vBlank ly).ppu.ly = ly :=
  fun _ => ⟨memoryInv_elsewhere (machine_memoryInv _ _) rfl, rfl, rfl⟩

theorem witness_OneLinePerCall : ∀ n : PpuStep, (atPpu n 143).clock.phase = .ppu ∧ (atPpu n 143).ppu.credit = 228 ∧
    (atPpu n 143).ppu.nextStep = n := fun _ => ⟨rfl, rfl, rfl⟩

theorem witness_ObjectPriority : (picture 0x80 16).objColour 0 0 0 ≠ 0 ∧ (picture 0x80 16).objColour 0 0 39 = 0 ∧
    0 ∈ (picture 0x80 16).selected 0 := by decide

theorem witness_ApuIsConfined : ∃ s : State, s.clock.phase = .apu :=
  ⟨{ machine cpu0 [] with clock := { phase := .apu, slice := 0 } }, rfl⟩

/-- The end of a slice and the end of a frame, with the host acting. -/
theorem witness_OrderOfTheUnits :
    (∃ t, step { machine cpu0 [] with clock := { phase := .timer 0, slice := 152 } } = .next t) ∧
    ∃ t, step { machine cpu0 [] with
      clock := { phase := .timer 0, slice := 153 }, hostInput := [[.joypad 0xEF, .joypadRequest], []] } = .next t ∧
      t.hostInput = [[]] ∧ t.clock = { phase := .cpuCall, slice := 0 } ∧ t.read 0xFF00 = 0xEF ∧ t.read 0xFF0F = 0x10 :=
  ⟨⟨_, rfl⟩, ⟨_, rfl, rfl, rfl, by decide, by decide⟩⟩

/-- A refused image and an accepted one, both at the boundary of the preconditions. -/
theorem witness_InsertCartridge :
    (hostAction (.insert 0x7FFF []) (machine cpu0 []) matches .refused _) = true ∧
    (hostAction (.insert 0x8001 [(0x0147, 1)]) (machine cpu0 []) matches .refused _) = true ∧
    (hostAction (.insert 0x8000 [(0x0147, 1)]) (machine cpu0 []) matches .next _) = true ∧
    (hostAction (.insert 0x8001 [(0x0147, 4)]) (machine cpu0 []) matches .next _) = true ∧
    (hostAction .joypadRequest (machine cpu0 []) matches .next _) = true ∧
    ({ mbc1 with shelf := mbc1.cart.toList }.shelf[0]?).isSome = true ∧ mbc1.cart.isSome = true ∧
    mbc1.shelf[0]? = none ∧ (hostAction (.insert 0x8000 []) mbc1 matches .next _) = true := by decide

theorem witness_StepKeepsMemoryCanonical : (machine cpu0 [(0xC800, 0x70)]).MemoryInv ∧
    ∃ t, step (machine cpu0 [(0xC800, 0x70)]) = .next t := ⟨machine_memoryInv _ _, _, rfl⟩

theorem witness_StepKeepsTheCreditBounds : (machine { cpu0 with credit := -5 } []).CpuInv ∧
    ∃ t, step (machine { cpu0 with credit := -5 } []) = .next t :=
  ⟨⟨fun _ _ h => (nomatch h), fun _ _ => by decide, by decide, fun h => absurd rfl h⟩, _, rfl⟩

/-- A run of the MBC1 machine, with a copy in the DMA queue. -/
theorem witness_StepKeepsTheRanges : let s : State := { mbc1 with dmaQueue := [{ src := 0xC09F, dst := 0xFE9F }] }
    (∃ t, step s = .next t) ∧ s.CartInv ∧ s.DeviceInv := by
  refine ⟨⟨_, rfl⟩, fun c h => ?_, ⟨fun c h => ?_, by decide, by decide, by decide⟩⟩
  · obtain h | h := h <;> cases h
    exact ⟨⟨by decide, fun _ => by decide⟩, fun _ _ => ⟨by decide, by decide⟩⟩
  · obtain rfl | h := List.mem_cons.mp h
    · decide
    · cases h

theorem witness_StepKeepsThePpuInStep : (atPpu .oamScan 143).MemoryInv ∧ (atPpu .oamScan 143).PpuInv ∧
    ∃ t, step (atPpu .oamScan 143) = .next t := by
  refine ⟨memoryInv_elsewhere (machine_memoryInv _ _) rfl,
    ⟨fun _ => ⟨rfl, .inr (.inl ⟨rfl, .inl rfl, .inl ⟨rfl, by decide⟩⟩)⟩, fun h => absurd rfl h, fun h => (nomatch h),
      by decide, by decide, fun h => (nomatch h)⟩, _, rfl⟩

end Sys2Proof.Tests
end

section
/-! SUPPORT. The BIOS-disable register (R96): what its store does, what the low page shows afterwards, and that no unit
of the machine maps the BIOS again; only an insertion by the host does (R103, R400, R422). -/

namespace Sys2Proof.Machine

variable {s t u : State}

/-! ### The store at 0xFF50 -/

theorem State.subscribers_FF50 (s : State) (v : Byte) :
    s.subscribers 0xFF50 v = { s with biosMapped := if v = 0 then s.biosMapped else false } := by
  unfold State.subscribers
  rw [if_pos rfl]
  split <;> rfl

theorem State.written_FF50 (s : State) (v : Byte) :
    s.written 0xFF50 v =
      { s with mem := Memory.write s.mem 0xFF50 v, biosMapped := if v = 0 then s.biosMapped else false } := by
  rw [State.written, State.subscribers_FF50, s.quiet_register (a := 0xFF50) v (by decide) (by decide)]
  rfl

theorem State.written_FF50_unmaps (s : State) {v : Byte} (hv : v ≠ 0) : (s.written 0xFF50 v).biosMapped = false := by
  rw [s.written_FF50 v]
  exact if_neg hv

theorem State.written_FF50_cart (s : State) (v : Byte) : (s.written 0xFF50 v).cart = s.cart := by
  rw [s.written_FF50 v]

/-! ### The low page once the BIOS is unmapped -/

/-- A Cartridge that is not inert shows its ROM from 0x0000 on: below 0x4000 no bank is selected. -/
theorem State.read_lowPage_cart {c : Cartridge} {a : Word} (hs : s.biosMapped = false) (hc : s.cart = some c)
    (hk : c.kind ≠ .inert) (ha : a.toNat ≤ 0xFF) : s.read a = Memory.read c.rom a.toNat := by
  have hown : c.contains a.toNat = true := by
    have hlow : a.toNat ≤ 0x7FFF := by omega
    cases e : c.kind with
    | inert => exact absurd e hk
    | mbc0 | mbc1 => simp [Cartridge.contains, e, hlow]
  have hoff : c.romOffset a.toNat = a.toNat := if_neg (by omega)
  have hplace : s.place a = .rom a.toNat := by
    simp only [State.place_eq, hs, Bool.false_eq_true, false_and, if_false, hc, hown, if_true]
    rw [Cartridge.place, if_pos (by omega), hoff]
  simp only [State.read, hplace, State.placeRead, hc]

/-- With no Cartridge the low page is the catch-all's. -/
theorem State.place_lowPage_empty {a : Word} (hs : s.biosMapped = false) (hc : s.cart = none) (ha : a.toNat ≤ 0xFF) :
    s.place a = .ram a.toNat := by
  simp only [State.place_eq, hs, Bool.false_eq_true, false_and, if_false, hc]
  exact ramPlace_own (by omega)

/-! ### The CPU and the DMA reach the mapping by published stores alone, and these only unmap -/

theorem State.subscribers_biosMapped_of_ne (s : State) {a : Word} (v : Byte) (ha : a ≠ 0xFF50) :
    (s.subscribers a v).biosMapped = s.biosMapped := by
  rcases s.subscribers_cases a v with e | ⟨h, -⟩ | ⟨-, e⟩ | ⟨-, e⟩ | ⟨-, -, e⟩ | ⟨-, e⟩ | ⟨-, e⟩ | ⟨-, e⟩
  · rw [e]
  · exact absurd h ha
  · rw [e]; rfl
  · rw [e]; exact s.quiet_biosMapped _ _
  · rw [e]; rfl
  · rw [e]
    rcases s.lcdControl_cases v with ⟨-, -, e⟩ | ⟨-, -, e⟩ | ⟨-, e⟩ <;> rw [e]
    rw [(State.onlyRegisters_setLy _ _).biosMapped, (State.onlyRegisters_setMode _ _).biosMapped]
  · rw [e]; exact s.quiet_biosMapped _ _
  · rw [e]; exact (State.onlyRegisters_coincidenceUpdate _).biosMapped

theorem State.written_keeps_unmapped (a : Word) (v : Byte) (h : s.biosMapped = false) :
    (s.written a v).biosMapped = false := by
  by_cases ha : a = 0xFF50
  · subst ha
    rw [s.written_FF50 v]
    dsimp only
    split
    · exact h
    · rfl
  · rw [State.written, State.subscribers_biosMapped_of_ne _ v ha, State.quiet_biosMapped, h]

theorem State.Moves.keeps_unmapped (h : s.Moves t) (hs : s.biosMapped = false) : t.biosMapped = false := by
  induction h with
  | refl => exact hs
  | cpu k _ ih => exact ih
  | store a v _ _ ih => exact State.written_keeps_unmapped a v ih

theorem cpuTurn_keeps_unmapped (h : cpuTurn s = .next t) (hs : s.biosMapped = false) : t.biosMapped = false := by
  rcases cpuTurn_next h with ⟨-, rfl⟩ | ⟨-, hm⟩
  · exact hs
  · exact hm.keeps_unmapped hs

/-! ### What the devices' turns can change -/

/-- `t` is `s` but for the bytes the devices own and write, the devices' own state, and the Clock's. -/
def State.OnlyDevices (s t : State) : Prop :=
  t = { s with mem := t.mem, sound := t.sound, timer := t.timer, ppu := t.ppu, clock := t.clock, apuRuns := t.apuRuns }

theorem State.OnlyDevices.trans (h : s.OnlyDevices t) (k : t.OnlyDevices u) : s.OnlyDevices u := by
  unfold State.OnlyDevices at *
  rw [k, h]

theorem State.OnlyDevices.biosMapped (h : s.OnlyDevices t) : t.biosMapped = s.biosMapped := by rw [h]

theorem State.OnlyRegisters.onlyDevices (h : s.OnlyRegisters t) : s.OnlyDevices t := by
  unfold State.OnlyDevices
  rw [h.rest]

theorem ppuNext_onlyDevices (s : State) (n : PpuStep) (cost : Nat) : s.OnlyDevices (s.ppuNext n cost) := rfl

theorem enterPpu_onlyDevices (s : State) : s.OnlyDevices (enterPpu s) := by
  unfold enterPpu
  split <;> exact rfl

theorem vBlankEntry_onlyDevices (s : State) : s.OnlyDevices (vBlankEntry s) :=
  (((s.onlyRegisters_setMode .vBlank).trans (State.onlyRegisters_request _ 0x01)).trans
    (State.onlyRegisters_statRequestIf _ 4)).onlyDevices.trans rfl

theorem ppuStep_onlyDevices (s : State) : s.OnlyDevices (ppuStep s) := by
  unfold ppuStep
  cases s.ppu.nextStep with
  | oamScan =>
    exact ((s.onlyRegisters_setMode .oamScan).trans (State.onlyRegisters_statRequestIf _ 5)).onlyDevices.trans
      (ppuNext_onlyDevices _ _ _)
  | pixelTransfer => exact (s.onlyRegisters_setMode .pixelTransfer).onlyDevices.trans rfl
  | hBlank =>
    exact (((s.onlyRegisters_setMode .hBlank).trans (State.onlyRegisters_statRequestIf _ 3)).trans
      (State.onlyRegisters_setLy _ _)).onlyDevices.trans (ppuNext_onlyDevices _ _ _)
  | vBlank =>
    have hentry : s.OnlyDevices (if s.ppu.ly = 144 then vBlankEntry s else s) := by
      split
      · exact vBlankEntry_onlyDevices s
      · exact rfl
    exact (hentry.trans (State.onlyRegisters_setLy _ _).onlyDevices).trans (ppuNext_onlyDevices _ _ _)

theorem ppuTurn_onlyDevices (s : State) : s.OnlyDevices (ppuTurn s) := by
  unfold ppuTurn
  split
  · exact rfl
  · exact ppuStep_onlyDevices s

theorem apuTurn_onlyDevices (s : State) : s.OnlyDevices (apuTurn s) := by
  unfold apuTurn
  exact rfl

theorem divUnit_onlyDevices (s : State) : s.OnlyDevices (divUnit s) := by
  unfold divUnit
  split
  · exact State.quiet_FF04 _ _ ▸ rfl
  · exact rfl

theorem timaTick_onlyDevices (s : State) : s.OnlyDevices (timaTick s) := by
  have hquiet : ∀ v, s.OnlyDevices (s.quiet 0xFF05 v) := fun v => State.quiet_FF05 s v ▸ rfl
  unfold timaTick
  dsimp only
  split
  · exact (hquiet _).trans (State.onlyRegisters_request _ _).onlyDevices
  · exact hquiet _

theorem timaUnit_onlyDevices (s : State) : s.OnlyDevices (timaUnit s) := by
  unfold timaUnit
  dsimp only
  split
  · split
    · have hacc : s.OnlyDevices { s with timer := { s.timer with timaAcc := 0 } } := rfl
      exact hacc.trans (timaTick_onlyDevices _)
    · exact rfl
  · exact rfl

theorem timerUnit_onlyDevices (s : State) : s.OnlyDevices (timerUnit s) :=
  (divUnit_onlyDevices s).trans (timaUnit_onlyDevices _)

theorem dmaTurn_keeps_unmapped {n : Nat} (h : dmaTurn n s = .next t) (hs : s.biosMapped = false) :
    t.biosMapped = false := by
  unfold dmaTurn at h
  split at h
  · exact (State.Moves.writeByte h).keeps_unmapped hs
  · cases h
    exact (enterPpu_onlyDevices s).biosMapped.trans hs

/-! ### The host between frames -/

/-- The host's operations that can map the BIOS: the three that insert a Cartridge, new or present (R103, R400, R401). -/
def HostAction.Inserts (x : HostAction) : Prop :=
  x = .reinsert ∨ (∃ k : Nat, x = .putBack k) ∨ ∃ (len : Nat) (rom : List Host.Cell), x = .insert len rom

/-- Among the operations of the next frame boundary is one that inserts a Cartridge. -/
def State.HostInserts (s : State) : Prop :=
  ∃ (xs : List HostAction) (rest : List (List HostAction)), s.hostInput = xs :: rest ∧ ∃ x ∈ xs, x.Inserts

theorem hostAction_unmapped {x : HostAction} (h : hostAction x s = .next t) (hs : s.biosMapped = false) :
    t.biosMapped = false ∨ x.Inserts := by
  cases x with
  | joypad v => cases h; exact .inl ((s.quiet_biosMapped _ _).trans hs)
  | joypadRequest => cases h; exact .inl ((s.onlyRegisters_request _).biosMapped.trans hs)
  | insert len rom => exact .inr (.inr (.inr ⟨len, rom, rfl⟩))
  | reinsert => exact .inr (.inl rfl)
  | putBack k => exact .inr (.inr (.inl ⟨k, rfl⟩))

theorem hostActions_unmapped {xs : List HostAction} (h : hostActions xs s = .next t) (hs : s.biosMapped = false) :
    t.biosMapped = false ∨ ∃ x ∈ xs, x.Inserts := by
  induction xs generalizing s with
  | nil => cases h; exact .inl hs
  | cons x xs ih =>
    obtain ⟨u, hx, hrest⟩ := andThen_next.mp h
    rcases hostAction_unmapped hx hs with hu | hins
    · rcases ih hrest hu with ht | ⟨y, hy, hins⟩
      · exact .inl ht
      · exact .inr ⟨y, List.mem_cons_of_mem x hy, hins⟩
    · exact .inr ⟨x, List.mem_cons_self, hins⟩

theorem frameBoundary_unmapped (h : frameBoundary s = .next t) (hs : s.biosMapped = false) :
    t.biosMapped = false ∨ s.HostInserts := by
  unfold frameBoundary at h
  split at h
  · cases h; exact .inl hs
  · next xs rest hin => exact (hostActions_unmapped h hs).imp_right fun hx => ⟨xs, rest, hin, hx⟩

/-- The end of a slice leaves the BIOS unmapped, but at a frame boundary at which the host inserts a Cartridge. -/
theorem endSlice_unmapped (h : endSlice s = .next t) (hs : s.biosMapped = false) :
    t.biosMapped = false ∨ ((s.clock.slice + 1) % 154 = 0 ∧ s.HostInserts) := by
  unfold endSlice Config.slicesPerFrame at h
  dsimp only at h
  split at h
  · next hframe =>
    exact (frameBoundary_unmapped h hs).imp_right fun hx => ⟨hframe, hx⟩
  · cases h; exact .inl hs

/-- A step of any unit leaves the BIOS unmapped, but at a frame boundary at which the host inserts a Cartridge. -/
theorem step_unmapped (hs : s.biosMapped = false) (h : step s = .next t) :
    t.biosMapped = false ∨ (s.clock.phase = .timer 0 ∧ (s.clock.slice + 1) % 154 = 0 ∧ s.HostInserts) := by
  unfold step at h
  cases hp : s.clock.phase with rw [hp] at h
  | cpuCall => exact .inl (cpuTurn_keeps_unmapped h hs)
  | cpu => exact .inl (cpuTurn_keeps_unmapped h hs)
  | mmu n => exact .inl (dmaTurn_keeps_unmapped h hs)
  | ppu => exact .inl (Host.Outcome.next.inj h ▸ (ppuTurn_onlyDevices s).biosMapped.trans hs)
  | apu => exact .inl (Host.Outcome.next.inj h ▸ (apuTurn_onlyDevices s).biosMapped.trans hs)
  | timer left =>
    cases left with
    | zero => exact (endSlice_unmapped h hs).imp_right fun hx => ⟨rfl, hx⟩
    | succ n => exact .inl (Host.Outcome.next.inj h ▸ (timerUnit_onlyDevices s).biosMapped.trans hs)

/-! ### The obligation -/

/-- Settles O39: the store's exact state, the low page of an unmapped BIOS, and the case split over the unit whose turn
a step is. -/
theorem biosDisable : Obligations.BiosDisable := by
  unfold Obligations.BiosDisable
  refine fun s v => ⟨s.written_FF50 v, fun c a hv hc hk ha => ?_, fun a hv hc ha => ?_, fun t => step_unmapped⟩
  · exact State.read_lowPage_cart (s.written_FF50_unmaps hv) ((s.written_FF50_cart v).trans hc) hk ha
  · exact State.place_lowPage_empty (s.written_FF50_unmaps hv) ((s.written_FF50_cart v).trans hc) ha

end Sys2Proof.Machine
end

section
/-! SUPPORT. The 8-bit loads and stores (R160 to R178): the bytes of the two regular blocks by their fields, the address
of the `LDH` forms as arithmetic, and when an instruction is one published store with something after it. -/

namespace Sys2Proof.Machine

/-! ### Bytes of the regular blocks -/

/-- The block 0x40 to 0x7F by its fields (R137); `HALT` is where both are 6. -/
theorem encode_ldForm (y z : Oct) :
    encode (.ldForm y.opnd z.opnd) = [BitVec.ofNat 8 (0x40 + 8 * y.val + z.val)] := by
  cases y <;> cases z <;> rfl

theorem encode_ldImmForm (y : Oct) (n : Byte) :
    encode (.ldImmForm y.opnd n) = [BitVec.ofNat 8 (0x06 + 8 * y.val), n] := by
  cases y <;> rfl

theorem encode_ldForm_mhl (y : Oct) : encode (.ldForm y.opnd .mhl) = [BitVec.ofNat 8 (0x46 + 8 * y.val)] := by
  rw [show 0x46 + 8 * y.val = 0x40 + 8 * y.val + Oct.o6.val by simp only [Oct.val]; omega]
  exact encode_ldForm y .o6

theorem encode_ldForm_toMhl (z : Oct) : encode (.ldForm .mhl z.opnd) = [BitVec.ofNat 8 (0x70 + z.val)] :=
  encode_ldForm .o6 z

/-! ### The page of the `LDH` forms -/

/-- The sum never leaves the page 0xFF00 to 0xFFFF, so it does not wrap (R136). -/
theorem highPage_eq (n : Byte) : highPage n = BitVec.ofNat 16 (0xFF00 + n.toNat) := by
  unfold highPage
  bv_omega

/-! ### One published store -/

variable {s : State} {i : Instr} {a : Word} {v : Byte}

theorem State.writeByte_fault {x : Fault} : s.writeByte a v = .fault x ↔ s.writeFault a v = some x := by
  unfold State.writeByte
  cases s.writeFault a v <;> simp

/-- A meaning that stores a byte and goes on from the state after it is one published store. -/
theorem StoresByte.of_exec {after : State → State}
    (h : exec i s = andThen (s.writeByte a v) fun t => .next (after t)) : StoresByte i s a v after := by
  refine ⟨fun ok => ?_, fun x hx => ?_⟩
  · rw [h, State.writeByte_next.mpr ⟨ok, rfl⟩]; rfl
  · rw [h, State.writeByte_fault.mpr hx]; rfl

theorem StoresByte.of_storeByte {n : Nat} (h : exec i s = storeByte a v n s) : StoresByte i s a v (·.charge n) :=
  .of_exec h

theorem StoresByte.of_storeAStepHl {w : Word} {n : Nat} (h : exec i s = storeAStepHl w n s) :
    StoresByte i s s.hl s.cpu.a (fun t => (t.setPair .hl w).charge n) :=
  .of_exec h

/-! ### The obligations -/

/-- Settles O4: the register field of a row is one of seven registers, so the bytes are those of the regular blocks, and
each meaning is the shape `loadReg`. -/
theorem loadRegister : Obligations.LoadRegister := by
  unfold Obligations.LoadRegister
  intro s y r hy
  refine ⟨fun z r' hz => ⟨?_, exec_load s r r'⟩, fun n => ⟨?_, exec_loadImm s r n⟩, ?_, exec_loadHl s r⟩
  · rw [← hy, ← hz, encode_ldForm]
  · rw [← hy, encode_ldImmForm]
  · rw [← hy, encode_ldForm_mhl]

/-- Settles O6: each meaning is the shape `loadReg` or `loadAStepHl` at the stated address, the `LDH` forms on the high
page. -/
theorem loadAccumulator : Obligations.LoadAccumulator := by
  unfold Obligations.LoadAccumulator
  intro s n nn
  have ldhC : exec .ldh_a_mc s = loadReg .a (s.read (highPage s.cpu.c)) 2 s := rfl
  have ldhN : exec (.ldh_a_mn n) s = loadReg .a (s.read (highPage n)) 3 s := rfl
  rw [highPage_eq] at ldhC ldhN
  exact ⟨⟨rfl, rfl⟩, ⟨rfl, rfl⟩, ⟨rfl, rfl⟩, ⟨rfl, ldhC⟩, ⟨rfl, ldhN⟩, ⟨rfl, rfl⟩, ⟨rfl, rfl⟩⟩

/-- Settles O7: each meaning is the shape `storeByte` or `storeAStepHl` at the stated address, which is one published
store. -/
theorem byteStores : Obligations.ByteStores := by
  unfold Obligations.ByteStores
  intro s n nn
  refine ⟨fun z r hz => ⟨?_, .of_storeByte (exec_storeHl s r)⟩, ⟨rfl, .of_storeByte (exec_storeHlImm s n)⟩,
    ⟨rfl, .of_storeByte rfl⟩, ⟨rfl, .of_storeByte rfl⟩, ⟨rfl, .of_storeByte rfl⟩, ⟨rfl, ?_⟩, ⟨rfl, ?_⟩,
    ⟨rfl, .of_storeAStepHl rfl⟩, ⟨rfl, .of_storeAStepHl rfl⟩⟩
  · rw [← hz, encode_ldForm_toMhl]
  · rw [← highPage_eq]; exact .of_storeByte rfl
  · rw [← highPage_eq]; exact .of_storeByte rfl

end Sys2Proof.Machine
end

section
/-! SUPPORT. The 16-bit loads and the pops (R190 to R196): the pair field of a row as a number, the signed displacement
as exact arithmetic, and what the halves of a popped word become. -/

namespace Sys2Proof.Machine

/-! ### The pair field -/

/-- The number of a pair in the field `rr` (R133). -/
def pairField : Pair → Nat
  | .bc => 0
  | .de => 1
  | .hl => 2
  | .sp => 3

/-- The rows `00 rr0 001` by their field. -/
theorem encode_ldPairForm (p : Pair) (nn : Word) :
    encode (.ldPairForm p nn) = [BitVec.ofNat 8 (0x01 + 16 * pairField p), lo nn, hi nn] := by
  cases p <;> rfl

/-- The four pairs and the numbers below 4 stand for each other. -/
theorem pairField_spec (p : Pair) :
    pairField p < 4 ∧ (p = .bc ↔ pairField p = 0) ∧ (p = .de ↔ pairField p = 1) ∧ (p = .hl ↔ pairField p = 2) ∧
      (p = .sp ↔ pairField p = 3) := by
  cases p <;> decide

/-! ### The signed displacement -/

/-- Adding a sign-extended byte is the exact sum, narrowed (R10, R136). -/
theorem add_sext_eq (w : Word) (e : Byte) : w + sext e = BitVec.ofInt 16 (w.toNat + e.toInt) := by
  rw [BitVec.ofInt_add, BitVec.ofInt_natCast, BitVec.ofNat_toNat, BitVec.setWidth_eq]
  rfl

/-! ### Pops -/

section
variable (s : State)

theorem State.setStackPair_bc_word (h l : Byte) :
    s.setStackPair .bc (word h l) = { s with cpu := { s.cpu with b := h, c := l } } := by
  rw [State.setStackPair, State.setPair, hi_word, lo_word]

theorem State.setStackPair_de_word (h l : Byte) :
    s.setStackPair .de (word h l) = { s with cpu := { s.cpu with d := h, e := l } } := by
  rw [State.setStackPair, State.setPair, hi_word, lo_word]

theorem State.setStackPair_hl_word (h l : Byte) :
    s.setStackPair .hl (word h l) = { s with cpu := { s.cpu with h := h, l := l } } := by
  rw [State.setStackPair, State.setPair, hi_word, lo_word]

/-- Only bits 7 to 4 of the low half reach the flags (R22, D40). -/
theorem State.setStackPair_af_word (h l : Byte) :
    s.setStackPair .af (word h l) = { s with cpu := { s.cpu with a := h, f := Flags.ofByte l } } := by
  rw [State.setStackPair, hi_word, lo_word]

/-- `POP qq` writes the pair from the halves at `SP` and `SP + 1`, after `SP` has moved past them. -/
theorem exec_pop_of_setStackPair {q : StackPair} {t : State}
    (h : s.popped.setStackPair q (word (s.read (s.cpu.sp + 1)) (s.read s.cpu.sp)) = t) :
    exec (.popForm q) s = .next (t.charge 3) := by
  rw [exec_pop, popPair, State.readWord, h]

end

/-! ### The obligation -/

/-- Settles O8: the pair rows by their field, the displacement as an exact sum, and each pop as the halves it writes. -/
theorem loadWordAndPop : Obligations.LoadWordAndPop := by
  unfold Obligations.LoadWordAndPop
  intro s p nn e low high
  obtain ⟨hlt, hbc, hde, hhl, hsp⟩ := pairField_spec p
  have ldHlSp : exec (.ld_hl_sp_e e) s =
      .next (((s.setPair .hl (s.cpu.sp + sext e)).setFlags (addSpFlags s.cpu.sp e)).charge 3) := rfl
  rw [add_sext_eq] at ldHlSp
  exact ⟨⟨pairField p, hlt, hbc, hde, hhl, hsp, encode_ldPairForm p nn⟩, exec_ldPair s p nn, ⟨rfl, rfl⟩, ⟨rfl, ldHlSp⟩,
    ⟨rfl, exec_pop_of_setStackPair s (s.popped.setStackPair_bc_word high low)⟩,
    ⟨rfl, exec_pop_of_setStackPair s (s.popped.setStackPair_de_word high low)⟩,
    ⟨rfl, exec_pop_of_setStackPair s (s.popped.setStackPair_hl_word high low)⟩,
    ⟨rfl, exec_pop_of_setStackPair s (s.popped.setStackPair_af_word high low)⟩⟩

end Sys2Proof.Machine
end

section
/-! SUPPORT. The 8-bit arithmetic and logic (R210 to R224): the bytes of its rows by their fields, each result with
its flags as arithmetic on numbers, and the state an accumulator operation leaves. -/

namespace Sys2Proof.Machine

/-! ### Bytes of the rows -/

/-- The block 0x80 to 0xBF by its fields, `OP` (R137, R210). -/
theorem encode_aluForm (y z : Oct) :
    encode ((AluSource.opnd z.opnd).instr y.alu) = [BitVec.ofNat 8 (0x80 + 8 * y.val + z.val)] := by
  cases y <;> cases z <;> rfl

/-- The rows `11 yyy 110`, `OP_N` (R137, R210). -/
theorem encode_aluImmForm (y : Oct) (n : Byte) :
    encode ((AluSource.imm n).instr y.alu) = [BitVec.ofNat 8 (0xC6 + 8 * y.val), n] := by
  cases y <;> rfl

theorem encode_incForm (y : Oct) : encode (.incForm y.opnd) = [BitVec.ofNat 8 (0x04 + 8 * y.val)] := by
  cases y <;> rfl

theorem encode_decForm (y : Oct) : encode (.decForm y.opnd) = [BitVec.ofNat 8 (0x05 + 8 * y.val)] := by
  cases y <;> rfl

/-! ### Results and flags as arithmetic -/

theorem ofNat_beq_zero (k : Nat) : (BitVec.ofNat 8 k == 0) = decide (k % 256 = 0) := by
  rw [beq_eq_decide, decide_eq_decide, BitVec.toNat_eq, BitVec.toNat_ofNat]
  rfl

theorem ofInt_beq_zero (k : Int) : (BitVec.ofInt 8 k == 0) = decide (k % 256 = 0) := by
  rw [beq_eq_decide, decide_eq_decide, BitVec.toNat_eq, BitVec.toNat_ofInt]
  show (k % 256).toNat = 0 ↔ k % 256 = 0
  omega

/-- `Z` as a test of the exact sum (R211). -/
theorem add8_eq (a b : Byte) (cin : Bool) : add8 a b cin =
    { value := BitVec.ofNat 8 (a.toNat + b.toNat + cin.toNat),
      flags := { z := decide ((a.toNat + b.toNat + cin.toNat) % 256 = 0), n := false,
                 h := decide (a.toNat % 16 + b.toNat % 16 + cin.toNat > 0x0F),
                 c := decide (a.toNat + b.toNat + cin.toNat > 0xFF) } } := by
  simp only [add8, ofNat_beq_zero]

/-- The flags of a difference, with the borrows as comparisons of what is taken with what it is taken from (R212). -/
def borrowFlags (a b m : Nat) : Flags :=
  { z := decide (((a : Int) - b - m) % 256 = 0), n := true, h := decide (a % 16 < b % 16 + m), c := decide (a < b + m) }

theorem sub8_eq (a b : Byte) (cin : Bool) : sub8 a b cin =
    { value := BitVec.ofInt 8 ((a.toNat : Int) - b.toNat - cin.toNat),
      flags := borrowFlags a.toNat b.toNat cin.toNat } := by
  have borrow (x y m : Nat) : decide ((x : Int) - y - m < 0) = decide (x < y + m) := by
    rw [decide_eq_decide]; omega
  simp only [sub8, borrowFlags, ofInt_beq_zero, borrow]

theorem inc8_eq (old : Byte) (f : Flags) : inc8 old f =
    { value := BitVec.ofNat 8 (old.toNat + 1),
      flags := { z := decide (old.toNat = 0xFF), n := false, h := decide (old.toNat % 16 = 0x0F), c := f.c } } := by
  have value : old + 1 = BitVec.ofNat 8 (old.toNat + 1) := by bv_omega
  have zero : (old.toNat + 1) % 256 = 0 ↔ old.toNat = 0xFF := by omega
  simp only [inc8, value, ofNat_beq_zero, zero]

theorem dec8_eq (old : Byte) (f : Flags) : dec8 old f =
    { value := BitVec.ofInt 8 ((old.toNat : Int) - 1),
      flags := { z := decide (old.toNat = 1), n := true, h := decide (old.toNat % 16 = 0), c := f.c } } := by
  have value : old - 1 = BitVec.ofInt 8 ((old.toNat : Int) - 1) := by
    rw [Int.sub_eq_add_neg, BitVec.ofInt_add, BitVec.ofInt_natCast, BitVec.ofNat_toNat, BitVec.setWidth_eq]
    exact BitVec.sub_eq_add_neg ..
  have zero : ((old.toNat : Int) - 1) % 256 = 0 ↔ old.toNat = 1 := by omega
  simp only [dec8, value, ofInt_beq_zero, zero]

/-! ### Accumulator operations -/

/-- The carry or borrow that enters: the old `C` where the operation takes it, else 0. -/
theorem carryIn_toNat (p q : Bool) : (p && q).toNat = if p = true ∧ q = true then 1 else 0 := by
  cases p <;> cases q <;> rfl

theorem compute_add (withCarry : Bool) (a b : Byte) (c : Bool) :
    AluOp.compute (if withCarry then .adc else .add) a b c = add8 a b (withCarry && c) := by
  cases withCarry <;> rfl

theorem compute_sub (withCarry : Bool) (a b : Byte) (c : Bool) :
    AluOp.compute (if withCarry then .sbc else .sub) a b c = sub8 a b (withCarry && c) := by
  cases withCarry <;> rfl

section
variable {s : State} {x : AluSource} {op : AluOp} {v : Byte} {f : Flags}

/-- Every accumulator operation but `CP` writes its result to `A` and its flags, and pays; nothing else changes. -/
theorem exec_alu_writes (h : op ≠ .cp) (e : AluOp.compute op s.cpu.a (x.value s) s.cpu.f.c = ⟨v, f⟩) :
    exec (x.instr op) s =
      .next { s with cpu := { s.cpu with a := v, f := f, credit := s.cpu.credit - x.cost } } := by
  rw [exec_alu, if_neg h, e]
  rfl

/-- `CP` keeps only the flags. -/
theorem exec_cp (s : State) (x : AluSource) :
    exec (x.instr .cp) s = .next { s with cpu := { s.cpu with
      f := borrowFlags s.cpu.a.toNat (x.value s).toNat 0, credit := s.cpu.credit - x.cost } } := by
  rw [exec_alu, if_pos rfl, AluOp.compute, sub8_eq]
  rfl

end

/-! ### The byte at `HL` -/

/-- A meaning of the shape `stepMem` is one published store at `HL`, then the flags. -/
theorem StoresByte.of_stepMem {s : State} {i : Instr} {v : Byte} {f : Flags} {n : Nat}
    (h : exec i s = stepMem ⟨v, f⟩ n s) : StoresByte i s s.hl v (fun t => (t.setFlags f).charge n) :=
  .of_exec h

/-! ### The obligations -/

/-- Settles O10: the two operations are `add8` with the carry-in 0 or the old `C`, whose result is the exact sum. -/
theorem addWithCarry : Obligations.AddWithCarry := by
  unfold Obligations.AddWithCarry
  intro s x withCarry z n op k a b cin
  have sum := (compute_add ..).trans (add8_eq s.cpu.a (x.value s) (withCarry && s.cpu.f.c))
  rw [carryIn_toNat] at sum
  cases withCarry with
  | false => exact ⟨encode_aluForm .o0 z, encode_aluImmForm .o0 n, exec_alu_writes (by decide) sum⟩
  | true => exact ⟨encode_aluForm .o1 z, encode_aluImmForm .o1 n, exec_alu_writes (by decide) sum⟩

/-- Settles O11: the three operations are `sub8`, whose result is the exact difference; `CP` discards it. -/
theorem subtractWithBorrow : Obligations.SubtractWithBorrow := by
  unfold Obligations.SubtractWithBorrow
  intro s x withCarry z n op k a b bin f
  have diff := (compute_sub ..).trans (sub8_eq s.cpu.a (x.value s) (withCarry && s.cpu.f.c))
  rw [carryIn_toNat] at diff
  cases withCarry with
  | false =>
    exact ⟨encode_aluForm .o2 z, encode_aluImmForm .o2 n, exec_alu_writes (by decide) diff,
      encode_aluForm .o7 z, encode_aluImmForm .o7 n, exec_cp s x⟩
  | true =>
    exact ⟨encode_aluForm .o3 z, encode_aluImmForm .o3 n, exec_alu_writes (by decide) diff,
      encode_aluForm .o7 z, encode_aluImmForm .o7 n, exec_cp s x⟩

/-- Settles O12: a byte with the stated bits is the operation's result, whose flags are the stated ones. -/
theorem bitwiseLogic : Obligations.BitwiseLogic := by
  unfold Obligations.BitwiseLogic
  intro s x op r z n k hop hr
  rcases hop with rfl | rfl | rfl
  · obtain rfl : r = s.cpu.a &&& x.value s := BitVec.eq_of_getLsbD_eq fun j _ => (hr j).trans BitVec.getLsbD_and.symm
    exact ⟨encode_aluForm .o4 z, encode_aluImmForm .o4 n, exec_alu_writes (by decide) rfl⟩
  · obtain rfl : r = s.cpu.a ^^^ x.value s := BitVec.eq_of_getLsbD_eq fun j _ => (hr j).trans BitVec.getLsbD_xor.symm
    exact ⟨encode_aluForm .o5 z, encode_aluImmForm .o5 n, exec_alu_writes (by decide) rfl⟩
  · obtain rfl : r = s.cpu.a ||| x.value s := BitVec.eq_of_getLsbD_eq fun j _ => (hr j).trans BitVec.getLsbD_or.symm
    exact ⟨encode_aluForm .o6 z, encode_aluImmForm .o6 n, exec_alu_writes (by decide) rfl⟩

/-- Settles O13: the forms are `inc8` and `dec8` of the old byte, in the shape `stepReg` for a register and `stepMem`
for the byte at `HL`. -/
theorem incrementByte : Obligations.IncrementByte := by
  unfold Obligations.IncrementByte
  intro s y old up down fUp fDown
  have hup : inc8 (s.opnd y.opnd) s.cpu.f = ⟨up, fUp⟩ := inc8_eq ..
  have hdown : dec8 (s.opnd y.opnd) s.cpu.f = ⟨down, fDown⟩ := dec8_eq ..
  refine ⟨encode_incForm y, encode_decForm y, fun r hy => ?_, fun hy => ?_⟩
  · rw [hy] at hup hdown
    exact ⟨(exec_inc s r).trans (congrArg (stepReg r · 1 s) hup),
      (exec_dec s r).trans (congrArg (stepReg r · 1 s) hdown)⟩
  · rw [hy] at hup hdown
    exact ⟨.of_stepMem ((exec_incHl s).trans (congrArg (stepMem · 3 s) hup)),
      .of_stepMem ((exec_decHl s).trans (congrArg (stepMem · 3 s) hdown))⟩

end Sys2Proof.Machine
end

section
/-! SUPPORT. The 16-bit arithmetic (R240 to R243): the bytes of its rows by their pair field, and the narrowed results
as exact arithmetic on numbers. -/

namespace Sys2Proof.Machine

/-! ### Bytes of the rows -/

/-- The rows `00 rr1 001` by their field. -/
theorem encode_addHlForm (p : Pair) : encode (.addHlForm p) = [BitVec.ofNat 8 (0x09 + 16 * pairField p)] := by
  cases p <;> rfl

/-- The rows `00 rr0 011` by their field. -/
theorem encode_incPairForm (p : Pair) : encode (.incPairForm p) = [BitVec.ofNat 8 (0x03 + 16 * pairField p)] := by
  cases p <;> rfl

/-- The rows `00 rr1 011` by their field. -/
theorem encode_decPairForm (p : Pair) : encode (.decPairForm p) = [BitVec.ofNat 8 (0x0B + 16 * pairField p)] := by
  cases p <;> rfl

/-! ### Results as arithmetic -/

/-- The difference with 1 before narrowing is an integer: a zero word goes to -1, which narrows to 0xFFFF. -/
theorem word_sub_one_eq (w : Word) : w - 1 = BitVec.ofInt 16 ((w.toNat : Int) - 1) := by
  rw [Int.sub_eq_add_neg, BitVec.ofInt_add, BitVec.ofInt_natCast, BitVec.ofNat_toNat, BitVec.setWidth_eq]
  exact BitVec.sub_eq_add_neg ..

/-! ### The obligation -/

/-- Settles O14: the rows by their pair field, each result as the exact sum or difference narrowed to a word. The flags
of `ADD HL,rr` and `ADD SP,e` are `addHlFlags` and `addSpFlags`; `INC rr` and `DEC rr` have the shape `loadPair`, which
writes none. -/
theorem wordArithmetic : Obligations.WordArithmetic := by
  unfold Obligations.WordArithmetic
  intro s p e a b
  obtain ⟨hlt, hbc, hde, hhl, hsp⟩ := pairField_spec p
  have sum : s.hl + s.pair p = BitVec.ofNat 16 (a + b) := BitVec.add_def ..
  have succ : s.pair p + 1 = BitVec.ofNat 16 (b + 1) := BitVec.add_def ..
  have pred : s.pair p - 1 = BitVec.ofInt 16 ((b : Int) - 1) := word_sub_one_eq _
  have addHlRow := exec_addHl s p
  have incRow := exec_incPair s p
  have decRow := exec_decPair s p
  have addSpRow : exec (.add_sp_e e) s =
      .next (((s.setSp (s.cpu.sp + sext e)).setFlags (addSpFlags s.cpu.sp e)).charge 4) := rfl
  rw [addHl, sum] at addHlRow
  rw [succ] at incRow
  rw [pred] at decRow
  rw [add_sext_eq] at addSpRow
  exact ⟨⟨pairField p, hlt, hbc, hde, hhl, hsp, encode_addHlForm p, encode_incPairForm p, encode_decPairForm p⟩,
    addHlRow, incRow, decRow, rfl, addSpRow⟩

end Sys2Proof.Machine
end

section
/-! SUPPORT. The accumulator rotates, the decimal adjust and the flag operations (R250 to R257): every rotate and shift
as arithmetic on its byte, and the two corrections of `DAA` as numbers. -/

namespace Sys2Proof.Machine

/-! ### A bit as a byte -/

theorem toNat_bit8 (c : Bool) : (bit8 c).toNat = c.toNat := by cases c <;> rfl

theorem toNat_bit8_getLsbD (v : Byte) (i : Nat) : (bit8 (v.getLsbD i)).toNat = v.toNat / 2 ^ i % 2 :=
  (toNat_bit8 _).trans (Nat.toNat_testBit ..)

theorem bit8_getLsbD_seven (v : Byte) : bit8 (v.getLsbD 7) = v >>> 7 := by
  have top := toNat_bit8_getLsbD v 7
  bv_omega

theorem bit8_getLsbD_zero_shiftLeft (v : Byte) : bit8 (v.getLsbD 0) <<< 7 = v <<< 7 := by
  have bottom := toNat_bit8_getLsbD v 0
  bv_omega

/-! ### Rotates and shifts

A shift by one place leaves the place of the bit shifted in empty, so that the OR with this bit is a sum. -/

theorem shiftLeft_one_or_bit8 (v : Byte) (c : Bool) :
    (v <<< 1) ||| bit8 c = BitVec.ofNat 8 (2 * v.toNat + c.toNat) := by
  have disjoint : (v <<< 1) &&& bit8 c = 0 := by
    ext (_ | i) hi <;> cases c <;> simp [bit8]
  have shiftedIn := toNat_bit8 c
  rw [← BitVec.add_eq_or_of_and_eq_zero _ _ disjoint]
  bv_omega

theorem shiftRight_one_or_bit8 (v : Byte) (c : Bool) :
    (v >>> 1) ||| (bit8 c <<< 7) = BitVec.ofNat 8 (v.toNat / 2 + 128 * c.toNat) := by
  have disjoint : (v >>> 1) &&& (bit8 c <<< 7) = 0 := by
    ext i hi
    rcases (by omega : i < 7 ∨ i = 7) with below | rfl
    · simp [below]
    · simp
  have shiftedIn := toNat_bit8 c
  rw [← BitVec.add_eq_or_of_and_eq_zero _ _ disjoint]
  bv_omega

/-- `SRA` (R296) puts the old bit 7 back, as the arithmetic shift does. -/
theorem shiftRight_one_or_signBit (v : Byte) : (v >>> 1) ||| (v &&& 0x80) = v.sshiftRight 1 := by
  ext i hi
  rcases (by omega : i < 7 ∨ i = 7) with below | rfl
  · interval_cases i <;> simp [BitVec.getElem_sshiftRight]
  · simp [BitVec.getElem_sshiftRight, BitVec.msb_eq_getLsbD_last]

/-- The mask of `SWAP` (R297) clears no bit that the shift left set. -/
theorem shiftLeft_four_and_highDigit (v : Byte) : (v <<< 4) &&& 0xF0 = v <<< 4 := by
  ext i hi
  interval_cases i <;> simp

/-- Each row of the rotate and shift group leaves the result and the carry of `RotOp.result`. -/
theorem RotOp.compute_eq (op : RotOp) (v : Byte) (cin : Bool) :
    RotOp.compute op v cin = shiftResult (op.result v cin).1 (op.result v cin).2 := by
  cases op with
  | rlc => rw [RotOp.compute, rlc8, bit8_getLsbD_seven]; rfl
  | rrc => rw [RotOp.compute, rrc8, bit8_getLsbD_zero_shiftLeft]; rfl
  | rl => exact congrArg (shiftResult · _) (shiftLeft_one_or_bit8 v cin)
  | rr => exact congrArg (shiftResult · _) (shiftRight_one_or_bit8 v cin)
  | sla => exact congrArg (shiftResult · _) (by rw [RotOp.result]; bv_omega)
  | sra => exact congrArg (shiftResult · _) (shiftRight_one_or_signBit v)
  | swap => exact congrArg (fun high => shiftResult (high ||| v >>> 4) _) (shiftLeft_four_and_highDigit v)
  | srl => exact congrArg (shiftResult · _) (by rw [RotOp.result]; bv_omega)

/-- The shape of the accumulator rotates: the row's result and carry, and `Z` cleared (R250 to R253). -/
theorem writeA_clearZ_compute (op : RotOp) (s : State) :
    writeA (clearZ (RotOp.compute op s.cpu.a s.cpu.f.c)) 1 s = .next { s with cpu := { s.cpu with
      a := (op.result s.cpu.a s.cpu.f.c).1,
      f := { z := false, n := false, h := false, c := (op.result s.cpu.a s.cpu.f.c).2 },
      credit := s.cpu.credit - 1 } } := by
  rw [RotOp.compute_eq]
  rfl

/-! ### The decimal adjust -/

/-- The correction of the low digit (R254). -/
def daaLow (a : Byte) (f : Flags) : Nat := if f.h = true ∨ (f.n = false ∧ a.toNat % 16 > 9) then 6 else 0

/-- The correction of the high digit (R254). -/
def daaHigh (a : Byte) (f : Flags) : Nat := if f.c = true ∨ (f.n = false ∧ a.toNat > 0x99) then 0x60 else 0

/-- `A` after the two corrections (R254). -/
def daaValue (a : Byte) (f : Flags) : Byte :=
  if f.n = true then BitVec.ofInt 8 ((a.toNat : Int) - daaLow a f - daaHigh a f)
  else BitVec.ofNat 8 (a.toNat + daaLow a f + daaHigh a f)

/-- The corrections 6 and 0x60 share no bit, so their OR is a sum. -/
theorem daaDigits_or (low high : Bool) :
    ((if low then 0x06 else 0) ||| (if high then 0x60 else 0) : Byte) =
      BitVec.ofNat 8 (if low then 6 else 0) + BitVec.ofNat 8 (if high then 0x60 else 0) := by
  cases low <;> cases high <;> rfl

theorem decide_daaHigh (high : Bool) : decide ((if high then 0x60 else 0) = 0x60) = high := by
  cases high <;> rfl

theorem byte_add_ofNat_add (a : Byte) (k m : Nat) :
    a + (BitVec.ofNat 8 k + BitVec.ofNat 8 m) = BitVec.ofNat 8 (a.toNat + k + m) := by
  rw [← BitVec.add_assoc, BitVec.ofNat_add, BitVec.ofNat_add, BitVec.ofNat_toNat, BitVec.setWidth_eq]

theorem byte_sub_ofNat_add (a : Byte) (k m : Nat) :
    a - (BitVec.ofNat 8 k + BitVec.ofNat 8 m) = BitVec.ofInt 8 ((a.toNat : Int) - k - m) := by
  rw [← BitVec.ofNat_add, Int.sub_sub, ← Int.natCast_add, Int.sub_eq_add_neg, BitVec.ofInt_add, BitVec.ofInt_neg,
    BitVec.ofInt_natCast, BitVec.ofInt_natCast, BitVec.ofNat_toNat, BitVec.setWidth_eq]
  exact BitVec.sub_eq_add_neg ..

/-- `DAA` (R254) in one formula for both directions: the carry tells whether 0x60 was applied. -/
theorem daa8_eq (a : Byte) (f : Flags) : daa8 a f =
    { value := daaValue a f,
      flags := { z := decide (daaValue a f = 0), n := f.n, h := false, c := decide (daaHigh a f = 0x60) } } := by
  cases h : f.n with
  | true =>
    have low : daaLow a f = if f.h then 6 else 0 := by simp [daaLow, h]
    have high : daaHigh a f = if f.c then 0x60 else 0 := by simp [daaHigh, h]
    have value : daaValue a f = a - ((if f.h then 0x06 else 0) ||| (if f.c then 0x60 else 0)) := by
      rw [daaValue, if_pos h, low, high, daaDigits_or, byte_sub_ofNat_add]
    rw [daa8, if_pos h, value, high, decide_daaHigh]
    rfl
  | false =>
    have added : ¬ f.n = true := by simp [h]
    have low : daaLow a f = if f.h || decide (a.toNat % 16 > 9) then 6 else 0 := by simp [daaLow, h]
    have high : daaHigh a f = if f.c || decide (a.toNat > 0x99) then 0x60 else 0 := by simp [daaHigh, h]
    have value : daaValue a f = a + ((if f.h || decide (a.toNat % 16 > 9) then 0x06 else 0) |||
        (if f.c || decide (a.toNat > 0x99) then 0x60 else 0)) := by
      rw [daaValue, if_neg added, low, high, daaDigits_or, byte_add_ofNat_add]
    rw [daa8, if_neg added, value, high, decide_daaHigh]
    rfl

/-! ### The complement -/

theorem byte_not_eq (v : Byte) : ~~~v = BitVec.ofNat 8 (0xFF - v.toNat) := by
  rw [BitVec.toNat_eq, BitVec.toNat_not]
  bv_omega

/-! ### The obligations -/

/-- Settles O15: the four are rows of the rotate and shift group on `A` with `Z` cleared afterwards. -/
theorem accumulatorRotates : Obligations.AccumulatorRotates := by
  unfold Obligations.AccumulatorRotates
  intro s after
  exact ⟨⟨rfl, writeA_clearZ_compute .rlc s⟩, ⟨rfl, writeA_clearZ_compute .rrc s⟩,
    ⟨rfl, writeA_clearZ_compute .rl s⟩, ⟨rfl, writeA_clearZ_compute .rr s⟩⟩

/-- Settles O16: the result and flags of `daa8` are the corrections as numbers, written to `A`. -/
theorem decimalAdjust : Obligations.DecimalAdjust := by
  unfold Obligations.DecimalAdjust
  intro s a f low high r
  have adjusted : exec .daa s = writeA (daa8 s.cpu.a s.cpu.f) 1 s := rfl
  rw [daa8_eq] at adjusted
  exact ⟨rfl, adjusted⟩

/-- Settles O17: each meaning is its state by definition, but for the complement as a difference from 0xFF. -/
theorem flagAndControlOperations : Obligations.FlagAndControlOperations := by
  unfold Obligations.FlagAndControlOperations
  intro s
  have complement : exec .cpl s = writeA ⟨~~~s.cpu.a, { s.cpu.f with n := true, h := true }⟩ 1 s := rfl
  rw [byte_not_eq] at complement
  exact ⟨⟨rfl, complement⟩, ⟨rfl, rfl⟩, ⟨rfl, rfl⟩, ⟨rfl, rfl⟩, rfl, rfl⟩

end Sys2Proof.Machine
end

section
/-! SUPPORT. The control transfers (R270 to R281): when an instruction is one published word store with something after
it, what a call stores, the bytes of the `RST` rows by their field, and the target of a relative jump. -/

namespace Sys2Proof.Machine

/-! ### One published word store -/

section
variable {s s' : State} {i : Instr} {a w : Word} {after : State → State}

theorem andThen_fault {r : Result} {f : State → Result} {x : Fault} :
    andThen r f = .fault x ↔ r = .fault x ∨ ∃ u, r = .next u ∧ f u = .fault x := by
  cases r <;> simp [andThen]

/-- A word store ends the run at its first byte, or at its second once the first is stored. -/
theorem State.writeWord_fault {x : Fault} :
    s.writeWord a w = .fault x ↔ s.writeFault a (lo w) = some x ∨
      s.writeFault a (lo w) = none ∧ (s.written a (lo w)).writeFault (a + 1) (hi w) = some x := by
  simp only [State.writeWord, andThen_fault, State.writeByte_fault, State.writeByte_next]
  refine or_congr_right ⟨?_, fun ⟨ok, fails⟩ => ⟨_, ⟨ok, rfl⟩, fails⟩⟩
  rintro ⟨_, ⟨ok, rfl⟩, fails⟩
  exact ⟨ok, fails⟩

/-- A meaning that stores a word and goes on from the state after it is two published stores, low byte first (R77). -/
theorem StoresWord.of_exec (h : exec i s = andThen (s'.writeWord a w) fun t => .next (after t)) :
    StoresWord i s s' a w after := by
  refine ⟨fun okLow okHigh => ?_, fun x fails => ?_, fun x okLow fails => ?_⟩
  · rw [h, State.writeWord_next.mpr ⟨okLow, okHigh, rfl⟩]; rfl
  · rw [h, State.writeWord_fault.mpr (.inl fails)]; rfl
  · rw [h, State.writeWord_fault.mpr (.inr ⟨okLow, fails⟩)]; rfl

/-- A call stores `PC` where `SP` points once it has moved down by two (R10, R276). -/
theorem StoresWord.of_callTo {target : Word} {n : Nat} (h : exec i s = callTo target n s) :
    StoresWord i s (s.setSp (s.cpu.sp - 2)) (s.cpu.sp - 2) s.cpu.pc (fun u => (u.setPc target).charge n) :=
  .of_exec h

end

/-! ### Bytes and targets -/

/-- The rows `11 ttt 111` by their field (R137, R281). -/
theorem encode_rstForm (t : Oct) : encode (.rstForm t) = [BitVec.ofNat 8 (0xC7 + 8 * t.val)] := by
  cases t <;> rfl

/-- The target of a relative jump as the exact sum, narrowed (R136). -/
theorem relative_eq (pc : Word) (e : Byte) : relative pc e = BitVec.ofInt 16 (pc.toNat + e.toInt) :=
  add_sext_eq pc e

/-! ### The obligation -/

/-- Settles O22: the jumps are `jumpTo` at the stated target, `CALL` and `RST` one published word store, and the
returns the state that `returnFrom` writes. -/
theorem unconditionalTransfers : Obligations.UnconditionalTransfers := by
  unfold Obligations.UnconditionalTransfers
  intro s nn e t target
  have jump : exec (.jr_e e) s = jumpTo (relative s.cpu.pc e) 3 s := rfl
  rw [relative_eq] at jump
  exact ⟨⟨rfl, rfl⟩, ⟨rfl, rfl⟩, ⟨rfl, jump⟩, ⟨rfl, .of_callTo rfl⟩,
    ⟨encode_rstForm t, .of_callTo (exec_rst s t)⟩, ⟨rfl, rfl⟩, ⟨rfl, rfl⟩⟩

end Sys2Proof.Machine
end

section
/-! SUPPORT. The 0xCB page (R290 to R301): the bytes of its four quarters by their fields, the tested bit as arithmetic,
and `RES` and `SET` bit by bit. -/

namespace Sys2Proof.Machine

/-! ### Bytes of the page -/

/-- The quarter 0x00 to 0x3F of the page by its fields (R137, R290). -/
theorem encode_rotForm (y z : Oct) :
    encode (.rotForm y.rot z.opnd) = [0xCB, BitVec.ofNat 8 (8 * y.val + z.val)] := by
  cases y <;> cases z <;> rfl

/-- The quarter 0x40 to 0x7F (R299). -/
theorem encode_bitForm (y z : Oct) :
    encode (.bitForm y z.opnd) = [0xCB, BitVec.ofNat 8 (0x40 + 8 * y.val + z.val)] := by
  cases y <;> cases z <;> rfl

/-- The quarter 0x80 to 0xBF (R300). -/
theorem encode_resForm (y z : Oct) :
    encode (.resForm y z.opnd) = [0xCB, BitVec.ofNat 8 (0x80 + 8 * y.val + z.val)] := by
  cases y <;> cases z <;> rfl

/-- The quarter 0xC0 to 0xFF (R301). -/
theorem encode_setForm (y z : Oct) :
    encode (.setForm y z.opnd) = [0xCB, BitVec.ofNat 8 (0xC0 + 8 * y.val + z.val)] := by
  cases y <;> cases z <;> rfl

/-! ### The tested bit -/

/-- The flags of `BIT` with `Z` as a test of the bit's number (R299). -/
theorem bitFlags_eq (v : Byte) (b : Nat) (f : Flags) :
    bitFlags v b f = { z := decide (v.toNat / 2 ^ b % 2 = 0), n := false, h := true, c := f.c } := by
  have tested : (!v.getLsbD b) = decide (v.toNat / 2 ^ b % 2 = 0) := by
    rw [← toNat_bit8_getLsbD, toNat_bit8]
    cases v.getLsbD b <;> rfl
  rw [bitFlags, tested]

/-- `BIT` on either operand form writes its flags and pays, one M-cycle more for the byte at `HL` (R299). -/
theorem exec_bit_opnd (s : State) (b : Oct) (x : Opnd8) :
    exec (.bitForm b x) s = .next { s with cpu := { s.cpu with
      f := bitFlags (s.opnd x) b.val s.cpu.f, credit := s.cpu.credit - if x = .mhl then 3 else 2 } } := by
  cases x with
  | reg r => exact exec_bit s b r
  | mhl => exact exec_bitHl s b

/-! ### The written bit -/

section
variable (u : Byte) (b : Nat) {k : Nat} (hk : k < 8)
include hk

/-- The mask of `RES` and `SET` is the power of two at the bit's place. -/
theorem getLsbD_one_shiftLeft : ((1 : Byte) <<< b).getLsbD k = decide (k = b) := by
  refine (BitVec.getLsbD_twoPow b k).trans ?_
  rcases eq_or_ne k b with rfl | apart
  · simp [hk]
  · simp [apart, apart.symm]

theorem getLsbD_resBit : (resBit u b).getLsbD k = if k = b then false else u.getLsbD k := by
  rw [resBit, BitVec.getLsbD_and, BitVec.getLsbD_not, getLsbD_one_shiftLeft b hk]
  split <;> simp [*]

theorem getLsbD_setBit : (setBit u b).getLsbD k = if k = b then true else u.getLsbD k := by
  rw [setBit, BitVec.getLsbD_or, getLsbD_one_shiftLeft b hk]
  split <;> simp [*]

end

/-! ### The byte at `HL` -/

/-- A meaning of the shape `cbMem` is one published store at `HL`, then the flags. -/
theorem StoresByte.of_cbMem {s : State} {i : Instr} {v : Byte} {f : Flags} {n : Nat}
    (h : exec i s = cbMem ⟨v, f⟩ n s) : StoresByte i s s.hl v (fun t => (t.setFlags f).charge n) :=
  .of_exec h

/-! ### The obligations -/

/-- Settles O24: each row is `RotOp.compute` of its operand, whose result and flags are those of `RotOp.result`, put
back in the shape `cbReg` for a register and `cbMem` for the byte at `HL`. -/
theorem rotatesAndShifts : Obligations.RotatesAndShifts := by
  unfold Obligations.RotatesAndShifts
  intro s y z r f
  have computed : RotOp.compute y.rot (s.opnd z.opnd) s.cpu.f.c = ⟨r.1, f⟩ := RotOp.compute_eq ..
  refine ⟨encode_rotForm y z, fun q hz => ?_, fun hz => ?_⟩
  · rw [hz] at computed
    exact (exec_rot s y.rot q).trans (congrArg (cbReg q · 2 s) computed)
  · rw [hz] at computed
    exact .of_cbMem ((exec_rotHl s y.rot).trans (congrArg (cbMem · 4 s) computed))

/-- Settles O26: `BIT` is `testBit` of its operand. A byte with the stated bits is what `RES` or `SET` makes of the
operand, put back in the shape `loadReg` for a register and `storeByte` for the byte at `HL`. -/
theorem bitOperations : Obligations.BitOperations := by
  unfold Obligations.BitOperations
  intro s y z on v
  have tested := exec_bit_opnd s y z.opnd
  rw [bitFlags_eq] at tested
  refine ⟨⟨encode_bitForm y z, tested⟩, fun bits => ?_⟩
  cases on with
  | false =>
    obtain rfl : v = resBit (s.opnd z.opnd) y.val :=
      BitVec.eq_of_getLsbD_eq fun k hk => (bits k hk).trans (getLsbD_resBit _ _ hk).symm
    refine ⟨encode_resForm y z, fun q hz => ?_, fun hz => ?_⟩
    · rw [hz]; exact exec_res s y q
    · rw [hz]; exact .of_storeByte (exec_resHl s y)
  | true =>
    obtain rfl : v = setBit (s.opnd z.opnd) y.val :=
      BitVec.eq_of_getLsbD_eq fun k hk => (bits k hk).trans (getLsbD_setBit _ _ hk).symm
    refine ⟨encode_setForm y z, fun q hz => ?_, fun hz => ?_⟩
    · rw [hz]; exact exec_set s y q
    · rw [hz]; exact .of_storeByte (exec_setHl s y)

end Sys2Proof.Machine
end

section
/-! SUPPORT. Decoding and encoding (R130 to R143): the bytes of what each quarter of the two opcode maps decodes to, by
its fields, and the instruction that the bytes of each form decode to. -/

namespace Sys2Proof

open Machine

/-! ### The fields of a byte -/

theorem Oct.field_val (k : Nat) : (Oct.field k).val = k % 8 := by
  have h : k % 8 < 8 := Nat.mod_lt _ (by decide)
  unfold Oct.field
  interval_cases k % 8 <;> rfl

/-- A byte is its quarter and its two fields (R137). -/
theorem ofNat_fields (op : Byte) {x : Nat} (hx : op.toNat / 64 = x) :
    BitVec.ofNat 8 (64 * x + 8 * (Oct.field (op.toNat / 8)).val + (Oct.field op.toNat).val) = op := by
  rw [Oct.field_val, Oct.field_val, ← hx,
    show 64 * (op.toNat / 64) + 8 * (op.toNat / 8 % 8) + op.toNat % 8 = op.toNat by omega,
    BitVec.ofNat_toNat, BitVec.setWidth_eq]

/-! ### The bytes of what the decoder reads -/

/-- The instruction is not the byte 0xCB alone, and its bytes are `op` and the first few of the two bytes after it. -/
def Instr.HasBytes (i : Instr) (op n1 n2 : Byte) : Prop :=
  i.wf = true ∧ ∃ k, k ≤ 2 ∧ encode i = op :: [n1, n2].take k

section
variable {i : Instr} {op n1 n2 : Byte} (hw : i.wf = true)
include hw

theorem Instr.HasBytes.one (e : encode i = [op]) : i.HasBytes op n1 n2 := ⟨hw, 0, by decide, e⟩

theorem Instr.HasBytes.two (e : encode i = [op, n1]) : i.HasBytes op n1 n2 := ⟨hw, 1, by decide, e⟩

/-- A word operand is stored low byte first (R132). -/
theorem Instr.HasBytes.three (e : encode i = [op, lo (word n2 n1), hi (word n2 n1)]) : i.HasBytes op n1 n2 :=
  ⟨hw, 2, by decide, by rw [e, lo_word, hi_word]; rfl⟩

end

theorem decodeX0_hasBytes (y z : Oct) (n1 n2 : Byte) :
    (decodeX0 y z n1 n2).HasBytes (BitVec.ofNat 8 (8 * y.val + z.val)) n1 n2 := by
  cases z with
  | o0 =>
    cases y with
    | o0 => exact .one rfl rfl
    | o1 => exact .three rfl rfl
    | _ => exact .two rfl rfl
  | o1 =>
    cases y with
    | o0 | o2 | o4 | o6 => exact .three rfl rfl
    | _ => exact .one rfl rfl
  | o6 => cases y <;> exact .two rfl rfl
  | _ => cases y <;> exact .one rfl rfl

theorem decodeX3_hasBytes (y z : Oct) (n1 n2 : Byte) (h : ¬ (y = .o1 ∧ z = .o3)) :
    (decodeX3 y z n1 n2).HasBytes (BitVec.ofNat 8 (0xC0 + 8 * y.val + z.val)) n1 n2 := by
  cases z with
  | o0 =>
    cases y with
    | o0 | o1 | o2 | o3 => exact .one rfl rfl
    | _ => exact .two rfl rfl
  | o2 =>
    cases y with
    | o4 | o6 => exact .one rfl rfl
    | _ => exact .three rfl rfl
  | o3 =>
    cases y with
    | o0 => exact .three rfl rfl
    | o1 => exact absurd ⟨rfl, rfl⟩ h
    | _ => exact .one rfl rfl
  | o4 =>
    cases y with
    | o0 | o1 | o2 | o3 => exact .three rfl rfl
    | _ => exact .one rfl rfl
  | o5 =>
    cases y with
    | o1 => exact .three rfl rfl
    | _ => exact .one rfl rfl
  | o6 => cases y <;> exact .two rfl rfl
  | _ => cases y <;> exact .one rfl rfl

theorem ldForm_wf (y z : Oct) : (Instr.ldForm y.opnd z.opnd).wf = true := by cases y <;> cases z <;> rfl

theorem aluForm_wf (y z : Oct) : (Instr.aluForm y.alu z.opnd).wf = true := by cases y <;> cases z <;> rfl

theorem quarter_cases (op : Byte) :
    op.toNat / 64 = 0 ∨ op.toNat / 64 = 1 ∨ op.toNat / 64 = 2 ∨ op.toNat / 64 = 3 := by
  have := op.isLt
  omega

theorem decodeBase_hasBytes (op n1 n2 : Byte) (h : op ≠ 0xCB) : (decodeBase op n1 n2).HasBytes op n1 n2 := by
  unfold decodeBase
  rcases quarter_cases op with e | e | e | e <;> rw [e]
  · have := decodeX0_hasBytes (.field (op.toNat / 8)) (.field op.toNat) n1 n2
    rwa [← Nat.zero_add (8 * _), ofNat_fields op e] at this
  · exact .one (ldForm_wf _ _) ((encode_ldForm _ _).trans (by rw [ofNat_fields op e]))
  · exact .one (aluForm_wf _ _) ((encode_aluForm _ _).trans (by rw [ofNat_fields op e]))
  · have notPrefix : ¬ (Oct.field (op.toNat / 8) = .o1 ∧ Oct.field op.toNat = .o3) := by
      rintro ⟨hy, hz⟩
      have := ofNat_fields op e
      rw [hy, hz] at this
      exact h this.symm
    have := decodeX3_hasBytes (.field (op.toNat / 8)) (.field op.toNat) n1 n2 notPrefix
    rwa [ofNat_fields op e] at this

/-- The 0xCB page has two bytes a row (R138, R290). -/
theorem encode_decodeCb (op : Byte) : encode (decodeCb op) = [0xCB, op] := by
  unfold decodeCb
  rcases quarter_cases op with e | e | e | e <;> rw [e]
  · exact (encode_rotForm _ _).trans (by rw [← Nat.zero_add (8 * _), ofNat_fields op e])
  · exact (encode_bitForm _ _).trans (by rw [ofNat_fields op e])
  · exact (encode_resForm _ _).trans (by rw [ofNat_fields op e])
  · exact (encode_setForm _ _).trans (by rw [ofNat_fields op e])

theorem decodeCb_wf (op : Byte) : (decodeCb op).wf = true := by
  rw [Instr.wf, bne_iff_ne]
  intro e
  have := encode_decodeCb op
  rw [e] at this
  exact absurd this (by simp [encode])

/-- What three bytes start is well formed, and its bytes are the first of the three, two of them after 0xCB. -/
theorem decode3_hasBytes (b0 b1 b2 : Byte) : (decode3 b0 b1 b2).HasBytes b0 b1 b2 ∧
    (b0 = 0xCB → (decode3 b0 b1 b2).length = 2) := by
  unfold decode3
  split
  · next h => exact ⟨.two (decodeCb_wf b1) (h ▸ encode_decodeCb b1), fun _ => congrArg List.length (encode_decodeCb b1)⟩
  · next h => exact ⟨decodeBase_hasBytes b0 b1 b2 h, fun e => absurd e h⟩

/-- Where the bytes of the instruction are all there, they are the first of the string. -/
theorem take_padded {l : List Byte} {k : Nat} (hk : k ≤ 2) (h : k ≤ l.length) :
    [l.getD 0 0, l.getD 1 0].take k = l.take k := by
  match k, l with
  | 0, _ => rfl
  | 1, _ :: _ => rfl
  | 2, _ :: _ :: _ => rfl

/-- What `decode` answers is well formed, and its bytes are the ones read. -/
theorem encode_of_decode {bs rest : List Byte} {i : Instr} (h : decode bs = .ok (i, rest)) :
    i.wf = true ∧ bs = encode i ++ rest := by
  cases bs with
  | nil => cases h
  | cons b0 l =>
    obtain ⟨⟨hw, k, hk, he⟩, -⟩ := decode3_hasBytes b0 (l.getD 0 0) (l.getD 1 0)
    have hlen : (decode3 b0 (l.getD 0 0) (l.getD 1 0)).length = k + 1 := by
      rw [Instr.length, he, List.length_cons, List.length_take]; simp [hk]
    unfold decode at h
    dsimp only at h
    split at h
    · next hl =>
      cases h
      rw [hlen, List.length_cons, Nat.succ_le_succ_iff] at hl
      rw [he, hlen, take_padded hk hl]
      exact ⟨hw, by simp⟩
    · cases h

/-! ### The instruction a form's bytes decode to -/

/-- The bytes of the instruction start it again, whatever the bytes after them are. -/
def Instr.ReadsBack (i : Instr) : Prop :=
  ∃ b0 l, encode i = b0 :: l ∧ ∀ rest : List Byte, decode3 b0 ((l ++ rest).getD 0 0) ((l ++ rest).getD 1 0) = i

theorem Instr.ReadsBack.one {i : Instr} {b0 : Byte} (e : encode i = [b0]) (h : ∀ n1 n2, decode3 b0 n1 n2 = i) :
    i.ReadsBack := ⟨b0, [], e, fun _ => h _ _⟩

theorem Instr.ReadsBack.two {i : Instr} {b0 n : Byte} (e : encode i = [b0, n]) (h : ∀ n2, decode3 b0 n n2 = i) :
    i.ReadsBack := ⟨b0, [n], e, fun _ => h _⟩

/-- A word operand comes back from its two bytes. -/
theorem Instr.ReadsBack.three {f : Word → Instr} {b0 : Byte} {nn : Word} (e : encode (f nn) = [b0, lo nn, hi nn])
    (h : ∀ n1 n2, decode3 b0 n1 n2 = f (word n2 n1)) : (f nn).ReadsBack :=
  ⟨b0, [lo nn, hi nn], e, fun _ => (h _ _).trans (congrArg f (word_hi_lo nn))⟩

theorem readsBack {i : Instr} (h : i.wf = true) : i.ReadsBack := by
  cases i.view with
  | load dst r => cases dst <;> cases r <;> exact .one rfl fun _ _ => rfl
  | loadHl dst => cases dst <;> exact .one rfl fun _ _ => rfl
  | storeHl r | inc r | dec r => cases r <;> exact .one rfl fun _ _ => rfl
  | loadImm dst n => cases dst <;> exact .two rfl fun _ => rfl
  | alu op x =>
    rcases x with (r | _) | n
    · cases op <;> cases r <;> exact .one rfl fun _ _ => rfl
    · cases op <;> exact .one rfl fun _ _ => rfl
    · cases op <;> exact .two rfl fun _ => rfl
  | ldPair p nn => cases p <;> exact .three rfl fun _ _ => rfl
  | addHl p | incPair p | decPair p => cases p <;> exact .one rfl fun _ _ => rfl
  | push q | pop q => cases q <;> exact .one rfl fun _ _ => rfl
  | jrCond cc e => cases cc <;> exact .two rfl fun _ => rfl
  | jpCond cc nn | callCond cc nn => cases cc <;> exact .three rfl fun _ _ => rfl
  | retCond cc => cases cc <;> exact .one rfl fun _ _ => rfl
  | rst t => cases t <;> exact .one rfl fun _ _ => rfl
  | rot op r => cases op <;> cases r <;> exact .two rfl fun _ => rfl
  | rotHl op => cases op <;> exact .two rfl fun _ => rfl
  | bit b r | res b r | set b r => cases b <;> cases r <;> exact .two rfl fun _ => rfl
  | bitHl b | resHl b | setHl b => cases b <;> exact .two rfl fun _ => rfl
  | storeHlImm n | stop n | jr_e n | ldh_mn_a n | ldh_a_mn n | add_sp_e n | ld_hl_sp_e n => exact .two rfl fun _ => rfl
  | ld_mnn_sp nn => exact .three (f := .ld_mnn_sp) rfl fun _ _ => rfl
  | jp_nn nn => exact .three (f := .jp_nn) rfl fun _ _ => rfl
  | call_nn nn => exact .three (f := .call_nn) rfl fun _ _ => rfl
  | ld_mnn_a nn => exact .three (f := .ld_mnn_a) rfl fun _ _ => rfl
  | ld_a_mnn nn => exact .three (f := .ld_a_mnn) rfl fun _ _ => rfl
  | prefix_cb => cases h
  | _ => exact .one rfl fun _ _ => rfl

/-- Decoding gives a well-formed instruction back from its bytes, whatever follows them. -/
theorem decode_encode {i : Instr} (h : i.wf = true) (rest : List Byte) : decode (encode i ++ rest) = .ok (i, rest) := by
  obtain ⟨b0, l, he, hd⟩ := readsBack h
  have hlen : i.length = l.length + 1 := by rw [Instr.length, he, List.length_cons]
  rw [he, List.cons_append, decode]
  rw [hd, hlen, if_pos (by simp), List.drop_succ_cons, List.drop_left]

/-! ### What three bytes start -/

/-- What three bytes start has 1 to 3 bytes, two of them after 0xCB. -/
theorem length_decode3 (b0 b1 b2 : Byte) :
    1 ≤ (decode3 b0 b1 b2).length ∧ (decode3 b0 b1 b2).length ≤ 3 ∧ (b0 = 0xCB → (decode3 b0 b1 b2).length = 2) := by
  obtain ⟨⟨-, k, hk, he⟩, hcb⟩ := decode3_hasBytes b0 b1 b2
  refine ⟨?_, ?_, hcb⟩ <;> rw [Instr.length, he] <;> simp

theorem decode_three (b0 b1 b2 : Byte) (rest : List Byte) :
    decode (b0 :: b1 :: b2 :: rest) =
      .ok (decode3 b0 b1 b2, (b0 :: b1 :: b2 :: rest).drop (decode3 b0 b1 b2).length) := by
  have h := (length_decode3 b0 b1 b2).2.1
  exact if_pos (h.trans (by simp))

/-! ### The obligations -/

/-- Settles O1: the bytes of every form decode to it, by the forms. -/
theorem Machine.decodeEncodeRoundTrip : Obligations.DecodeEncodeRoundTrip := by
  unfold Obligations.DecodeEncodeRoundTrip
  exact fun i rest h => decode_encode h rest

/-- Settles O2: what the bytes decode to has them as its own bytes, and three of them are enough for any row. -/
theorem Machine.encodeDecodeRoundTrip : Obligations.EncodeDecodeRoundTrip := by
  unfold Obligations.EncodeDecodeRoundTrip
  refine ⟨fun bs i rest => encode_of_decode, fun b0 b1 b2 rest => ?_, fun bs x h => ?_⟩
  · obtain ⟨hpos, hle, hcb⟩ := length_decode3 b0 b1 b2
    exact ⟨_, _, hpos, hle, hcb, decode_three b0 b1 b2 rest⟩
  · match bs, h with
    | [], _ | [_], _ | [_, _], _ => simp
    | b0 :: b1 :: b2 :: rest, h => rw [decode_three] at h; cases h

/-- Settles O3: each sample is one evaluation of the decoder. -/
theorem Machine.sampleWordsDecode : Obligations.SampleWordsDecode := by
  unfold Obligations.SampleWordsDecode
  exact ⟨rfl, rfl, rfl, rfl, rfl, rfl, rfl, rfl, rfl, rfl, rfl, rfl, rfl, rfl, rfl⟩

end Sys2Proof
end

section
/-! SUPPORT. The register file and the stack words (R20, R21, R22, R191, R194): a write and its undoing, a pair and a
pushed word as arithmetic on their halves. -/

namespace Sys2Proof.Machine

/-! ### Words and their halves -/

/-- The first-named half is the high byte (R21). -/
theorem word_eq (h l : Byte) : word h l = BitVec.ofNat 16 (h.toNat * 256 + l.toNat) := by
  apply BitVec.eq_of_toNat_eq
  have hh := h.isLt
  have hl := l.isLt
  rw [word, BitVec.toNat_append, BitVec.toNat_ofNat, ← Nat.shiftLeft_add_eq_or_of_lt hl, Nat.shiftLeft_eq,
    Nat.mod_eq_of_lt (by omega)]

theorem toNat_toByte (f : Flags) :
    f.toByte.toNat = 128 * f.z.toNat + 64 * f.n.toNat + 32 * f.h.toNat + 16 * f.c.toNat := by
  obtain ⟨z, n, h, c⟩ := f
  cases z <;> cases n <;> cases h <;> cases c <;> rfl

/-! ### The register file -/

section
variable (s : State)

/-- Writing the old value back undoes a write (R20). -/
theorem State.setReg_undo (r : Reg8) (v : Byte) : (s.setReg r v).setReg r (s.reg r) = s := by cases r <;> rfl

/-- Writing the old pair back undoes a write of it (R21). -/
theorem State.setPair_undo (p : Pair) (w : Word) : (s.setPair p w).setPair p (s.pair p) = s := by
  cases p <;> simp only [State.setPair, State.pair, hi_word, lo_word]

end

/-! ### The pushed pair -/

/-- The number of a pair in the field `qq` (R134). -/
def stackPairField : StackPair → Nat
  | .bc => 0
  | .de => 1
  | .hl => 2
  | .af => 3

/-- The rows `11 qq0 101` by their field. -/
theorem encode_pushForm (q : StackPair) : encode (.pushForm q) = [BitVec.ofNat 8 (0xC5 + 16 * stackPairField q)] := by
  cases q <;> rfl

theorem stackPairField_spec (q : StackPair) :
    stackPairField q < 4 ∧ (q = .bc ↔ stackPairField q = 0) ∧ (q = .de ↔ stackPairField q = 1) ∧
      (q = .hl ↔ stackPairField q = 2) ∧ (q = .af ↔ stackPairField q = 3) := by
  cases q <;> decide

/-- `AF` is `A` and the flags byte, `Z N H C` in bits 7 to 4 (R22). -/
theorem State.stackPair_af (s : State) : s.stackPair .af =
    BitVec.ofNat 16 (256 * s.cpu.a.toNat + 128 * s.cpu.f.z.toNat + 64 * s.cpu.f.n.toNat + 32 * s.cpu.f.h.toNat +
      16 * s.cpu.f.c.toNat) := by
  rw [State.stackPair, word_eq, toNat_toByte]
  congr 1
  omega

/-- `PUSH` stores its word where `SP` points once it has moved down by two (R10, R194). -/
theorem StoresWord.of_pushWord {s : State} {i : Instr} {w : Word} {n : Nat} (h : exec i s = pushWord w n s) :
    StoresWord i s (s.setSp (s.cpu.sp - 2)) (s.cpu.sp - 2) w (·.charge n) :=
  .of_exec h

/-! ### The obligations -/

/-- Settles O5: a read after a write by the registers involved, and a pair as arithmetic on its halves. -/
theorem registerFile : Obligations.RegisterFile := by
  unfold Obligations.RegisterFile
  exact fun s r v p w => ⟨fun r' => s.reg_setReg r r' v, s.setReg_undo r v, s.pair_setPair_self p w, s.setPair_undo p w,
    word_eq _ _, word_eq _ _, word_eq _ _⟩

/-- Settles O9: both forms are one published word store, `PUSH` of the pair's value. -/
theorem wordStores : Obligations.WordStores := by
  unfold Obligations.WordStores
  intro s nn q f value
  obtain ⟨hlt, hbc, hde, hhl, haf⟩ := stackPairField_spec q
  have pushed : s.stackPair q = value := by
    cases q with
    | af => exact s.stackPair_af
    | _ => rfl
  refine ⟨rfl, .of_exec rfl, ⟨_, hlt, hbc, hde, hhl, haf, encode_pushForm q⟩, pushed ▸ .of_pushWord (exec_push s q)⟩

end Sys2Proof.Machine
end

section
/-! SUPPORT. The CPU control instructions and the conditional transfers (R259 to R262, R270 to R279), and the 0xCB
byte (R138): the turns of a wait, the entry after `EI`, and the two Commands of a conditional transfer. -/

namespace Sys2Proof.Machine

variable {s t : State}

/-! ### Pending interrupts -/

theorem getLsbD_low_five (v : Byte) (j : Nat) : (v &&& 0x1F).getLsbD j = (v.getLsbD j && decide (j < 5)) := by
  rw [BitVec.getLsbD_and]
  congr 1
  by_cases h : j < 8
  · interval_cases j <;> rfl
  · rw [BitVec.getLsbD_of_ge _ _ (by omega)]
    exact (decide_eq_false (by omega)).symm

/-- Bit `j` is pending (R320). -/
theorem State.getLsbD_pending (s : State) (j : Nat) :
    s.pending.getLsbD j = ((s.read 0xFFFF).getLsbD j && (s.read 0xFF0F).getLsbD j && decide (j < 5)) := by
  rw [State.pending, getLsbD_low_five, BitVec.getLsbD_and]

theorem ne_zero_of_getLsbD {v : Byte} {i : Nat} (h : v.getLsbD i = true) : v ≠ 0 := by
  rintro rfl
  rw [show (0 : Byte).getLsbD i = false from BitVec.getLsbD_zero] at h
  exact Bool.false_ne_true h

/-- The lowest set bit among the five (R321). -/
theorem lowestBit_eq {v : Byte} {i : Nat} (hi : i < 5) (h : v.getLsbD i = true)
    (below : ∀ j, j < i → v.getLsbD j = false) : lowestBit v = i := by
  have first : ∀ {j}, j < i → ¬ v.getLsbD j = true := fun hj => by rw [below _ hj]; decide
  unfold lowestBit
  interval_cases i
  · rw [if_pos h]
  · rw [if_neg (first (by decide)), if_pos h]
  · rw [if_neg (first (by decide)), if_neg (first (by decide)), if_pos h]
  · rw [if_neg (first (by decide)), if_neg (first (by decide)), if_neg (first (by decide)), if_pos h]
  · rw [if_neg (first (by decide)), if_neg (first (by decide)), if_neg (first (by decide)), if_neg (first (by decide))]

/-- The CPU's turn with credit and an empty queue takes the lowest pending interrupt where `IME` is set (R310, R320). -/
theorem step_takes {i : Nat} (hp : s.clock.phase = .cpu) (hc : 0 < s.cpu.credit) (hq : s.cpu.queue = none)
    (hime : s.cpu.ime = true) (hi : i < 5) (h : s.pending.getLsbD i = true)
    (below : ∀ j, j < i → s.pending.getLsbD j = false) : step s = s.takeInterrupt i := by
  have due : s.interruptDue = true := by
    rw [State.interruptDue, hime, Bool.true_and, bne_iff_ne]
    exact ne_zero_of_getLsbD h
  rw [step, hp]
  dsimp only
  rw [cpuTurn, if_neg (by omega), hq]
  dsimp only
  rw [if_pos due, lowestBit_eq hi h below]

/-- Settles O18: the state `EI` leaves meets the entry's conditions, so that its next step is the entry. -/
theorem enableInterrupts : Obligations.EnableInterrupts := by
  unfold Obligations.EnableInterrupts
  intro s t
  refine ⟨rfl, rfl, fun i hi hp hq hc h below => ?_⟩
  refine step_takes hp (show 0 < s.cpu.credit - 1 by omega) hq rfl hi ?_ fun j hj => ?_
  · exact (getLsbD_low_five (s.read 0xFFFF &&& s.read 0xFF0F) i).trans (by rw [h, decide_eq_true hi, Bool.and_true])
  · exact (getLsbD_low_five (s.read 0xFFFF &&& s.read 0xFF0F) j).trans (by rw [below j hj, Bool.false_and])

/-! ### Waits -/

theorem haltTurn_eq (hq : s.cpu.queue = none) : haltTurn s = .next { s with cpu := { s.cpu with
    queue := if s.pending ≠ 0 then none else some .haltWait, credit := s.cpu.credit - 1 } } := by
  rw [haltTurn_next]
  split
  · rw [← hq]; rfl
  · rfl

theorem stopTurn_eq (hq : s.cpu.queue = none) : stopTurn s = .next { s with cpu := { s.cpu with
    queue := if (s.read 0xFF0F).getLsbD 4 = true then none else some .stopWait, credit := s.cpu.credit - 1 } } := by
  rw [stopTurn_next]
  split
  · rw [← hq]; rfl
  · rfl

/-- Settles O19: the instruction and each later turn are the same turn of the wait. -/
theorem haltWaits : Obligations.HaltWaits := by
  unfold Obligations.HaltWaits
  exact fun s hq => ⟨rfl, haltTurn_eq hq, haltTurn_eq hq⟩

/-- Settles O21: by the parameter. -/
theorem stopByParameter : Obligations.StopByParameter := by
  unfold Obligations.StopByParameter
  intro s n hq waiting
  have meaning : exec (.stop n) s = stopByParam s := rfl
  refine ⟨rfl, fun h => ?_, fun h => ?_, fun h => ?_, stopTurn_eq hq⟩ <;> rw [meaning, stopByParam, h]
  exact stopTurn_eq hq

/-- A turn of the wait with nothing pending pays 1 where that is `HALT`'s cost, and changes nothing else. -/
theorem step_haltWait (hp : s.clock.phase = .cpu) (hq : s.cpu.queue = some .haltWait) (hn : s.pending = 0)
    (hcost : s.firstCost .halt = 1) (hc : 0 < s.cpu.credit) :
    step s = .next { s with cpu := { s.cpu with credit := s.cpu.credit - 1 } } := by
  have settled : (s.setQueue none).settle .haltWait = s.setQueue none :=
    State.settle_of_cost (c := .haltWait) (by exact hcost)
  rw [step, hp]
  dsimp only
  rw [cpuTurn, if_neg (by omega), hq]
  dsimp only
  rw [settled, runCommand, haltTurn_eq rfl, show (s.setQueue none).pending = 0 from hn]
  simp [State.setQueue, ← hq]

/-- Settles O20: by induction on the credit, a turn of the wait at a time. -/
theorem haltUsesUpTheCredit : Obligations.HaltUsesUpTheCredit := by
  unfold Obligations.HaltUsesUpTheCredit
  intro s n
  induction n generalizing s with
  | zero =>
    intro _ _ _ _ hc
    have : ({ s with cpu := { s.cpu with credit := 0 } } : State) = s := by rw [show (0 : Int) = s.cpu.credit from hc.symm]
    exact congrArg Host.Outcome.next this.symm
  | succ n ih =>
    intro hp hq hn hcost hc
    rw [run_next (step_haltWait hp hq hn hcost (by omega))]
    exact ih _ hp hq hn hcost (show s.cpu.credit - 1 = n by omega)

/-! ### Conditional transfers -/

/-- The number of a condition in the field `cc` (R135). -/
def condField : Cond → Nat
  | .nz => 0
  | .z => 1
  | .nc => 2
  | .c => 3

theorem encode_jpCondForm (cc : Cond) (nn : Word) :
    encode (.jpCondForm cc nn) = [BitVec.ofNat 8 (0xC2 + 8 * condField cc), lo nn, hi nn] := by cases cc <;> rfl

theorem encode_jrCondForm (cc : Cond) (e : Byte) :
    encode (.jrCondForm cc e) = [BitVec.ofNat 8 (0x20 + 8 * condField cc), e] := by cases cc <;> rfl

theorem encode_callCondForm (cc : Cond) (nn : Word) :
    encode (.callCondForm cc nn) = [BitVec.ofNat 8 (0xC4 + 8 * condField cc), lo nn, hi nn] := by cases cc <;> rfl

theorem encode_retCondForm (cc : Cond) :
    encode (.retCondForm cc) = [BitVec.ofNat 8 (0xC0 + 8 * condField cc)] := by cases cc <;> rfl

theorem continueIf_eq {b : Bool} {k : Command} {n : Nat} (hq : s.cpu.queue = none) :
    continueIf b k n s = .next { s with cpu := { s.cpu with
      queue := if b then some (s.cut k) else none, credit := s.cpu.credit - n } } := by
  rw [continueIf_next]
  cases b with
  | true => rfl
  | false => rw [if_neg Bool.false_ne_true, if_neg Bool.false_ne_true, ← hq]; rfl

/-- The continuation of a taken `CALL` pushes `PC`, low byte first, and jumps (R277). -/
theorem callTo_eq {target : Word} {n : Nat}
    (okLow : (s.setSp (s.cpu.sp - 2)).writeFault (s.cpu.sp - 2) (lo s.cpu.pc) = none)
    (okHigh : ((s.setSp (s.cpu.sp - 2)).written (s.cpu.sp - 2) (lo s.cpu.pc)).writeFault (s.cpu.sp - 1) (hi s.cpu.pc) =
      none) :
    callTo target n s = .next (((((s.setSp (s.cpu.sp - 2)).written (s.cpu.sp - 2) (lo s.cpu.pc)).written
      (s.cpu.sp - 1) (hi s.cpu.pc)).setPc target).charge n) := by
  rw [show s.cpu.sp - 1 = s.cpu.sp - 2 + 1 by bv_omega] at okHigh ⊢
  exact callTo_next.mpr ⟨_, State.writeWord_next.mpr ⟨okLow, okHigh, rfl⟩, rfl⟩

/-- Settles O23: each first Command is `continueIf` on its condition, and each continuation is the unconditional
transfer at the rest of the cost. -/
theorem conditionalTransfers : Obligations.ConditionalTransfers := by
  unfold Obligations.ConditionalTransfers
  intro s cc nn e holds k after
  have hholds : s.cond cc = holds := by cases cc <;> rfl
  have hk : condField cc = k := by cases cc <;> rfl
  have first (hq : s.cpu.queue = none) (q : Command) (n : Nat) :
      continueIf (s.cond cc) q n s = .next (after q n) := hholds ▸ continueIf_eq hq
  have jump : runCommand (.jumpBy cc e) s = jumpTo (relative s.cpu.pc e) 1 s := rfl
  rw [relative_eq] at jump
  refine ⟨fun hq => ⟨⟨?_, ?_⟩, ⟨?_, ?_⟩, ⟨?_, ?_⟩, ?_, ?_⟩, rfl, jump, rfl, callTo_eq⟩
  · rw [encode_jpCondForm, hk]
  · rw [exec_jpCond, first hq]
  · rw [encode_jrCondForm, hk]
  · rw [exec_jrCond, first hq]
  · rw [encode_callCondForm, hk]
  · rw [exec_callCond, first hq]
  · rw [encode_retCondForm, hk]
  · rw [exec_retCond, first hq]

/-! ### The byte 0xCB -/

/-- Settles O25: the instruction queued is what the second byte decodes to on the 0xCB page. -/
theorem prefixByteQueuesTheCommand : Obligations.PrefixByteQueuesTheCommand := by
  unfold Obligations.PrefixByteQueuesTheCommand
  exact fun s => ⟨_, decodeCb_wf _, encode_decodeCb _, rfl, fun _ => rfl⟩

end Sys2Proof.Machine
end

section
/-! SUPPORT. What every instruction keeps (R23, R25, R26, R311 to R315, R432): what each form does to the control part of
the CPU, that the forms without a store change the CPU alone, and which row of a parameter an instruction finds. -/

namespace Sys2Proof

/-- What the instruction leaves in `IME`, where it writes it (R26). -/
def Instr.imeAfter : Instr → Option Bool
  | .ei | .reti => some true
  | .di => some false
  | _ => none

/-- The forms whose rules have a flags line (R23). -/
def Instr.WritesFlags (i : Instr) : Prop :=
  (∃ x op, i = Machine.AluSource.instr x op) ∨ (∃ z, i = .incForm z ∨ i = .decForm z) ∨ (∃ p, i = .addHlForm p) ∨
    (∃ e, i = .add_sp_e e ∨ i = .ld_hl_sp_e e) ∨ i = .pop_af ∨
    i ∈ [Instr.rlca, .rrca, .rla, .rra, .daa, .cpl, .scf, .ccf] ∨
    (∃ op z, i = .rotForm op z) ∨ ∃ b z, i = .bitForm b z

theorem Instr.WritesFlags.alu {op : AluOp} {x : Machine.AluSource} : (x.instr op).WritesFlags := .inl ⟨x, op, rfl⟩

theorem Instr.WritesFlags.inc {z : Opnd8} : (Instr.incForm z).WritesFlags := .inr (.inl ⟨z, .inl rfl⟩)

theorem Instr.WritesFlags.dec {z : Opnd8} : (Instr.decForm z).WritesFlags := .inr (.inl ⟨z, .inr rfl⟩)

theorem Instr.WritesFlags.addHl {p : Pair} : (Instr.addHlForm p).WritesFlags := .inr (.inr (.inl ⟨p, rfl⟩))

theorem Instr.WritesFlags.spPlus {i : Instr} {e : Byte} (h : i = .add_sp_e e ∨ i = .ld_hl_sp_e e) : i.WritesFlags :=
  .inr (.inr (.inr (.inl ⟨e, h⟩)))

theorem Instr.WritesFlags.popAf : Instr.pop_af.WritesFlags := .inr (.inr (.inr (.inr (.inl rfl))))

theorem Instr.WritesFlags.accumulator {i : Instr} (h : i ∈ [Instr.rlca, .rrca, .rla, .rra, .daa, .cpl, .scf, .ccf]) :
    i.WritesFlags := .inr (.inr (.inr (.inr (.inr (.inl h)))))

theorem Instr.WritesFlags.rot {op : RotOp} {z : Opnd8} : (Instr.rotForm op z).WritesFlags :=
  .inr (.inr (.inr (.inr (.inr (.inr (.inl ⟨op, z, rfl⟩))))))

theorem Instr.WritesFlags.bit {b : Oct} {z : Opnd8} : (Instr.bitForm b z).WritesFlags :=
  .inr (.inr (.inr (.inr (.inr (.inr (.inr ⟨b, z, rfl⟩))))))

/-- The first Command pays `n`, and neither `PC` nor `IME` is written. -/
def Instr.Plain (i : Instr) (n : Nat) : Prop := i.cost = n ∧ i.imeAfter = none

namespace Machine

variable {s t : State} {i : Instr} {n : Nat}

/-! ### The queue after an instruction -/

/-- What an instruction other than the byte 0xCB leaves in the queue: what was there, a wait, or the continuation of a
taken transfer. -/
def State.QueueFrom (s t : State) : Prop :=
  t.cpu.queue = s.cpu.queue ∨
    ∃ c, t.cpu.queue = some (s.cut c) ∧ (∀ i, c ≠ .exec i) ∧ (∀ n next, c ≠ .after n next)

theorem continueIf_queue {b : Bool} {k : Command} (h : continueIf b k n s = .next t) (he : ∀ i, k ≠ .exec i)
    (ha : ∀ n next, k ≠ .after n next) : s.QueueFrom t := by
  cases continueIf_next.mp h
  cases b with
  | true => exact .inr ⟨k, rfl, he, ha⟩
  | false => exact .inl rfl

/-- A wait is never cut (R259, R260). -/
theorem State.cut_wait (s : State) {c : Command} (h : c = .haltWait ∨ c = .stopWait) : s.cut c = c := by
  rcases h with rfl | rfl <;> (rw [State.cut, State.lead]; split <;> rfl)

theorem haltTurn_queue (h : haltTurn s = .next t) : s.QueueFrom t := by
  cases haltTurn_next.mp h
  split
  · exact .inl rfl
  · exact .inr ⟨.haltWait, congrArg some (s.cut_wait (.inl rfl)).symm, nofun, nofun⟩

theorem stopTurn_queue (h : stopTurn s = .next t) : s.QueueFrom t := by
  cases stopTurn_next.mp h
  split
  · exact .inl rfl
  · exact .inr ⟨.stopWait, congrArg some (s.cut_wait (.inr rfl)).symm, nofun, nofun⟩

/-! ### The control part of the CPU after each form -/

/-- What an instruction that goes on has done to the control part of the CPU and to the flags. -/
structure Effect (i : Instr) (s t : State) : Prop where
  credit : t.cpu.credit = s.cpu.credit - i.cost
  pc : i.transfers = false → t.cpu.pc = s.cpu.pc
  ime : t.cpu.ime = i.imeAfter.getD s.cpu.ime
  flags : t.cpu.f = s.cpu.f ∨ i.WritesFlags
  queue : i ≠ .prefix_cb → s.QueueFrom t

/-- A form that pays and writes neither `PC`, `IME` nor the queue. -/
theorem Effect.of_charged (hi : i.Plain n) (h : Charged n s t) (hf : t.cpu.f = s.cpu.f ∨ i.WritesFlags) :
    Effect i s t :=
  ⟨hi.1 ▸ h.credit, fun _ => h.pc, by rw [hi.2, h.ime]; rfl, hf, fun _ => .inl h.queue⟩

section
variable (hi : i.Plain n)
include hi

theorem Effect.loadReg {r : Reg8} {v : Byte} (h : Machine.loadReg r v n s = .next t) : Effect i s t :=
  .of_charged hi (.loadReg h) (.inl (by cases h; simp))

theorem Effect.loadPair {p : Pair} {w : Word} (h : Machine.loadPair p w n s = .next t) : Effect i s t :=
  .of_charged hi (.loadPair h) (.inl (by cases h; simp))

theorem Effect.storeByte {a : Word} {v : Byte} (h : Machine.storeByte a v n s = .next t) : Effect i s t :=
  .of_charged hi (.storeByte h) (.inl (by rw [(storeByte_next.mp h).2]; simp))

theorem Effect.storeAStepHl {w : Word} (h : Machine.storeAStepHl w n s = .next t) : Effect i s t :=
  .of_charged hi (.storeAStepHl h) (.inl (by rw [(storeAStepHl_next.mp h).2]; simp))

theorem Effect.storeWord {a w : Word} (h : Machine.storeWord a w n s = .next t) : Effect i s t := by
  refine .of_charged hi (.storeWord h) (.inl ?_)
  obtain ⟨u, hu, rfl⟩ := storeWord_next.mp h
  rw [State.charge_cpu_f, State.writeWord_cpu hu]

theorem Effect.pushWord {w : Word} (h : Machine.pushWord w n s = .next t) : Effect i s t := by
  refine .of_charged hi (.pushWord h) (.inl ?_)
  obtain ⟨u, hu, rfl⟩ := pushWord_next.mp h
  rw [State.charge_cpu_f, State.push16_cpu hu]

theorem Effect.continueIf {b : Bool} {k : Command} (h : Machine.continueIf b k n s = .next t)
    (he : ∀ i, k ≠ .exec i) (ha : ∀ n next, k ≠ .after n next) : Effect i s t := by
  refine ⟨?_, fun _ => ?_, ?_, .inl ?_, fun _ => continueIf_queue h he ha⟩ <;> cases continueIf_next.mp h <;>
    cases b <;> simp [hi.1, hi.2]

theorem Effect.jumpTo {w : Word} (ht : i.transfers = true) (h : Machine.jumpTo w n s = .next t) : Effect i s t := by
  cases h
  exact ⟨by rw [hi.1]; rfl, fun e => absurd ht (by rw [e]; decide), by rw [hi.2]; rfl, .inl rfl, fun _ => .inl rfl⟩

theorem Effect.callTo {w : Word} (ht : i.transfers = true) (h : Machine.callTo w n s = .next t) : Effect i s t := by
  have hcpu := callTo_cpu h
  exact ⟨by rw [hi.1, hcpu], fun e => absurd ht (by rw [e]; decide), by rw [hi.2, hcpu]; rfl,
    .inl (by rw [hcpu]), fun _ => .inl (by rw [hcpu])⟩

theorem Effect.haltTurn (h : Machine.haltTurn s = .next t) (hn : n = 1) : Effect i s t := by
  refine ⟨?_, fun _ => ?_, ?_, .inl ?_, fun _ => haltTurn_queue h⟩ <;> cases haltTurn_next.mp h <;> subst hn <;>
    split <;> simp [hi.1, hi.2]

theorem Effect.stopTurn (h : Machine.stopTurn s = .next t) (hn : n = 1) : Effect i s t := by
  refine ⟨?_, fun _ => ?_, ?_, .inl ?_, fun _ => stopTurn_queue h⟩ <;> cases stopTurn_next.mp h <;> subst hn <;>
    split <;> simp [hi.1, hi.2]

theorem Effect.writesFlags (hw : i.WritesFlags) (h : Charged n s t) : Effect i s t := .of_charged hi h (.inr hw)

end

theorem Effect.stop {k : Byte} (h : stopByParam s = .next t) : Effect (.stop k) s t := by
  unfold stopByParam at h
  split at h
  · cases h
  · cases h; exact .of_charged ⟨rfl, rfl⟩ ⟨rfl, rfl, rfl, rfl⟩ (.inl rfl)
  · exact .stopTurn ⟨rfl, rfl⟩ h rfl

/-- What every instruction does to the control part of the CPU and to the flags. -/
theorem exec_effect (h : exec i s = .next t) : Effect i s t := by
  cases i.view with
  | load dst r => exact .loadReg (by cases dst <;> cases r <;> exact ⟨rfl, rfl⟩) (exec_load s dst r ▸ h)
  | loadHl dst => exact .loadReg (by cases dst <;> exact ⟨rfl, rfl⟩) (exec_loadHl s dst ▸ h)
  | storeHl r => exact .storeByte (by cases r <;> exact ⟨rfl, rfl⟩) (exec_storeHl s r ▸ h)
  | loadImm dst n => exact .loadReg (by cases dst <;> exact ⟨rfl, rfl⟩) (exec_loadImm s dst n ▸ h)
  | storeHlImm n => exact .storeByte ⟨rfl, rfl⟩ h
  | alu op x =>
    have hi : (x.instr op).Plain x.cost := by
      rcases x with (r | _) | n
      · cases op <;> cases r <;> exact ⟨rfl, rfl⟩
      · cases op <;> exact ⟨rfl, rfl⟩
      · cases op <;> exact ⟨rfl, rfl⟩
    rw [exec_alu] at h
    split at h
    · exact .writesFlags hi .alu (.flagsOnly h)
    · exact .writesFlags hi .alu (.stepReg (r := .a) h)
  | inc r =>
    exact .writesFlags (by cases r <;> exact ⟨rfl, rfl⟩) .inc (.stepReg (exec_inc s r ▸ h))
  | dec r =>
    exact .writesFlags (by cases r <;> exact ⟨rfl, rfl⟩) .dec (.stepReg (exec_dec s r ▸ h))
  | incHl => exact .writesFlags ⟨rfl, rfl⟩ .inc (.stepMem (exec_incHl s ▸ h))
  | decHl => exact .writesFlags ⟨rfl, rfl⟩ .dec (.stepMem (exec_decHl s ▸ h))
  | ldPair p nn => exact .loadPair (by cases p <;> exact ⟨rfl, rfl⟩) (exec_ldPair s p nn ▸ h)
  | addHl p =>
    rw [exec_addHl] at h
    cases h
    exact .writesFlags (n := 2) (by cases p <;> exact ⟨rfl, rfl⟩) .addHl ⟨rfl, rfl, rfl, rfl⟩
  | incPair p => exact .loadPair (by cases p <;> exact ⟨rfl, rfl⟩) (exec_incPair s p ▸ h)
  | decPair p => exact .loadPair (by cases p <;> exact ⟨rfl, rfl⟩) (exec_decPair s p ▸ h)
  | push q => exact .pushWord (by cases q <;> exact ⟨rfl, rfl⟩) (exec_push s q ▸ h)
  | pop q =>
    refine .of_charged (by cases q <;> exact ⟨rfl, rfl⟩) (.popPair (exec_pop s q ▸ h)) ?_
    rw [exec_pop] at h
    cases h
    cases q with
    | af => exact .inr .popAf
    | _ => exact .inl rfl
  | jrCond cc e =>
    exact .continueIf (by cases cc <;> exact ⟨rfl, rfl⟩) (k := .jumpBy cc e) (exec_jrCond s cc e ▸ h) nofun nofun
  | jpCond cc nn =>
    exact .continueIf (by cases cc <;> exact ⟨rfl, rfl⟩) (k := .jumpTo cc nn) (exec_jpCond s cc nn ▸ h) nofun nofun
  | callCond cc nn =>
    exact .continueIf (by cases cc <;> exact ⟨rfl, rfl⟩) (k := .callTo cc nn)
      (exec_callCond s cc nn ▸ h) nofun nofun
  | retCond cc =>
    exact .continueIf (by cases cc <;> exact ⟨rfl, rfl⟩) (k := .ret cc) (exec_retCond s cc ▸ h) nofun nofun
  | rst k => exact .callTo (by cases k <;> exact ⟨rfl, rfl⟩) (by cases k <;> rfl) (exec_rst s k ▸ h)
  | rot op r =>
    exact .writesFlags (by cases op <;> cases r <;> exact ⟨rfl, rfl⟩)
      .rot (.stepReg (exec_rot s op r ▸ h))
  | rotHl op =>
    exact .writesFlags (by cases op <;> exact ⟨rfl, rfl⟩) .rot
      (.stepMem (exec_rotHl s op ▸ h))
  | bit b r =>
    exact .writesFlags (by cases b <;> cases r <;> exact ⟨rfl, rfl⟩)
      .bit (.flagsOnly (exec_bit s b r ▸ h))
  | bitHl b =>
    exact .writesFlags (by cases b <;> exact ⟨rfl, rfl⟩) .bit
      (.flagsOnly (exec_bitHl s b ▸ h))
  | res b r => exact .loadReg (by cases b <;> cases r <;> exact ⟨rfl, rfl⟩) (exec_res s b r ▸ h)
  | resHl b => exact .storeByte (by cases b <;> exact ⟨rfl, rfl⟩) (exec_resHl s b ▸ h)
  | set b r => exact .loadReg (by cases b <;> cases r <;> exact ⟨rfl, rfl⟩) (exec_set s b r ▸ h)
  | setHl b => exact .storeByte (by cases b <;> exact ⟨rfl, rfl⟩) (exec_setHl s b ▸ h)
  | ld_mbc_a | ld_mde_a | ldh_mn_a | ldh_mc_a | ld_mnn_a => exact .storeByte ⟨rfl, rfl⟩ h
  | ld_a_mbc | ld_a_mde | ldh_a_mn | ldh_a_mc | ld_a_mnn => exact .loadReg ⟨rfl, rfl⟩ h
  | ld_mhli_a | ld_mhld_a => exact .storeAStepHl ⟨rfl, rfl⟩ h
  | ld_mnn_sp => exact .storeWord ⟨rfl, rfl⟩ h
  | ld_sp_hl => exact .loadPair ⟨rfl, rfl⟩ h
  | jp_nn | jp_hl | jr_e => exact .jumpTo ⟨rfl, rfl⟩ rfl h
  | call_nn => exact .callTo ⟨rfl, rfl⟩ rfl h
  | halt => exact .haltTurn ⟨rfl, rfl⟩ h rfl
  | stop => exact .stop h
  | add_sp_e e | ld_hl_sp_e e =>
    cases h
    exact .writesFlags ⟨rfl, rfl⟩ (.spPlus (e := e) (by simp)) ⟨rfl, rfl, rfl, rfl⟩
  | rlca | rrca | rla | rra | daa | cpl | scf | ccf =>
    cases h
    exact .writesFlags ⟨rfl, rfl⟩ (.accumulator (by decide)) ⟨rfl, rfl, rfl, rfl⟩
  | ret | reti => cases h; exact ⟨rfl, nofun, rfl, .inl rfl, fun _ => .inl rfl⟩
  | prefix_cb => cases h; exact ⟨(Int.sub_zero _).symm, nofun, rfl, .inl rfl, fun e => absurd rfl e⟩
  | nop | ld_a_mhli | ld_a_mhld | ei | di => cases h; exact ⟨rfl, fun _ => rfl, rfl, .inl rfl, fun _ => .inl rfl⟩
  | illegal_d3 | illegal_db | illegal_dd | illegal_e3 | illegal_e4 | illegal_eb | illegal_ec | illegal_ed | illegal_f4
  | illegal_fc | illegal_fd => cases h

/-! ### Instructions without a store -/

/-- `t` differs from `s` in the CPU at most. -/
def State.CpuOnly (s t : State) : Prop := t = { s with cpu := t.cpu }

theorem loadReg_cpuOnly {r : Reg8} {v : Byte} (h : loadReg r v n s = .next t) : s.CpuOnly t := by
  cases h; cases r <;> rfl

theorem loadPair_cpuOnly {p : Pair} {w : Word} (h : loadPair p w n s = .next t) : s.CpuOnly t := by
  cases h; cases p <;> rfl

theorem stepReg_cpuOnly {r : Reg8} {x : AluResult} (h : stepReg r x n s = .next t) : s.CpuOnly t := by
  cases h; cases r <;> rfl

theorem flagsOnly_cpuOnly {f : Flags} (h : flagsOnly f n s = .next t) : s.CpuOnly t := by cases h; rfl

theorem popPair_cpuOnly {q : StackPair} (h : popPair q n s = .next t) : s.CpuOnly t := by cases h; cases q <;> rfl

theorem continueIf_cpuOnly {b : Bool} {k : Command} (h : continueIf b k n s = .next t) : s.CpuOnly t := by
  rw [continueIf_next.mp h]; cases b <;> rfl

theorem haltTurn_cpuOnly (h : haltTurn s = .next t) : s.CpuOnly t := by
  rw [haltTurn_next.mp h]; split <;> rfl

theorem stopTurn_cpuOnly (h : stopTurn s = .next t) : s.CpuOnly t := by
  rw [stopTurn_next.mp h]; split <;> rfl

theorem stop_cpuOnly (h : stopByParam s = .next t) : s.CpuOnly t := by
  unfold stopByParam at h
  split at h
  · cases h
  · cases h; rfl
  · exact stopTurn_cpuOnly h

/-- An instruction that stores nothing changes the CPU alone. -/
theorem exec_cpuOnly (hs : i.stores = false) (h : exec i s = .next t) : s.CpuOnly t := by
  cases i.view with
  | load dst r => exact loadReg_cpuOnly (exec_load s dst r ▸ h)
  | loadHl dst => exact loadReg_cpuOnly (exec_loadHl s dst ▸ h)
  | loadImm dst n => exact loadReg_cpuOnly (exec_loadImm s dst n ▸ h)
  | alu op x =>
    rw [exec_alu] at h
    split at h
    · exact flagsOnly_cpuOnly h
    · exact stepReg_cpuOnly (r := .a) h
  | inc r => exact stepReg_cpuOnly (exec_inc s r ▸ h)
  | dec r => exact stepReg_cpuOnly (exec_dec s r ▸ h)
  | ldPair p nn => exact loadPair_cpuOnly (exec_ldPair s p nn ▸ h)
  | addHl p => rw [exec_addHl] at h; cases h; rfl
  | incPair p => exact loadPair_cpuOnly (exec_incPair s p ▸ h)
  | decPair p => exact loadPair_cpuOnly (exec_decPair s p ▸ h)
  | pop q => exact popPair_cpuOnly (exec_pop s q ▸ h)
  | jrCond cc e => exact continueIf_cpuOnly (exec_jrCond s cc e ▸ h)
  | jpCond cc nn => exact continueIf_cpuOnly (exec_jpCond s cc nn ▸ h)
  | callCond cc nn => exact continueIf_cpuOnly (exec_callCond s cc nn ▸ h)
  | retCond cc => exact continueIf_cpuOnly (exec_retCond s cc ▸ h)
  | rot op r => exact stepReg_cpuOnly (exec_rot s op r ▸ h)
  | bit b r => exact flagsOnly_cpuOnly (exec_bit s b r ▸ h)
  | bitHl b => exact flagsOnly_cpuOnly (exec_bitHl s b ▸ h)
  | res b r => exact loadReg_cpuOnly (exec_res s b r ▸ h)
  | set b r => exact loadReg_cpuOnly (exec_set s b r ▸ h)
  | storeHl r => cases r <;> cases hs
  | push q => cases q <;> cases hs
  | rst k => cases k <;> cases hs
  | rotHl op => cases op <;> cases hs
  | resHl b | setHl b => cases b <;> cases hs
  | storeHlImm | incHl | decHl | ld_mbc_a | ld_mde_a | ldh_mn_a | ldh_mc_a | ld_mnn_a | ld_mhli_a | ld_mhld_a | ld_mnn_sp
  | call_nn => cases hs
  | halt => exact haltTurn_cpuOnly h
  | stop => exact stop_cpuOnly h
  | illegal_d3 | illegal_db | illegal_dd | illegal_e3 | illegal_e4 | illegal_eb | illegal_ec | illegal_ed | illegal_f4
  | illegal_fc | illegal_fd => cases h
  | _ => cases h; rfl

/-! ### Costs -/

/-- Every Command pays the spec's cost (R311, R313). -/
theorem runCommand_credit {c : Command} (h : runCommand c s = .next t) : t.cpu.credit = s.cpu.credit - c.cost := by
  cases c with
  | after n next => cases h; rfl
  | exec i => exact (exec_effect h).credit
  | jumpTo cc w | jumpBy cc w => cases h; cases cc <;> rfl
  | callTo cc w => rw [callTo_cpu h]; cases cc <;> rfl
  | ret cc => cases h; cases cc <;> rfl
  | haltWait => exact (Effect.haltTurn (i := .halt) ⟨rfl, rfl⟩ h rfl).credit
  | stopWait => exact (Effect.stopTurn (i := .stop 0) ⟨rfl, rfl⟩ h rfl).credit

/-- A settled Command pays what the machine's row leaves for it (R432). -/
theorem runCommand_settle_credit {c : Command} (h : runCommand c (s.settle c) = .next t) :
    t.cpu.credit = s.cpu.credit - s.commandCost c := by
  rw [runCommand_credit h, State.settle_cpu_credit]
  omega

/-- The first row with a key is the row a search for the key finds. -/
theorem find?_first_row {α : Type} {key : α → Bool × Byte} {before after : List α} {r : α} {k : Bool × Byte}
    (hk : k = key r) (hb : ∀ q ∈ before, key q ≠ key r) :
    (before ++ r :: after).find? (fun q => key q == k) = some r := by
  subst hk
  have none : before.find? (fun q => key q == key r) = none := List.find?_eq_none.mpr fun q hq => by simpa using hb q hq
  rw [List.find?_append, none, Option.none_or, List.find?_cons_of_pos (by simp)]

section
variable {prefixed : Bool} {op : Byte}
  (he : if prefixed = true then encode i = [0xCB, op] else op ≠ 0xCB ∧ (encode i).head? = some op)
include he

theorem State.costRow_of_first {before after : List Config.CostRow} {r : Config.CostRow}
    (hr : (r.prefixed, r.opcode) = (prefixed, op)) (hp : s.params.costs = before ++ r :: after)
    (hb : ∀ q ∈ before, (q.prefixed, q.opcode) ≠ (r.prefixed, r.opcode)) : s.costRow i = some r := by
  rw [State.costRow, hp]
  exact find?_first_row (key := fun q : Config.CostRow => (q.prefixed, q.opcode))
    ((Instr.row_of_encode he).trans hr.symm) hb

theorem State.cutRow_of_first {before after : List Config.CutRow} {r : Config.CutRow}
    (hr : (r.prefixed, r.opcode) = (prefixed, op)) (hp : s.params.partition = before ++ r :: after)
    (hc : i.cost ≠ 0) (hb : ∀ q ∈ before, (q.prefixed, q.opcode) ≠ (r.prefixed, r.opcode)) : s.cutRow i = some r := by
  rw [State.cutRow, if_neg hc, hp]
  exact find?_first_row (key := fun q : Config.CutRow => (q.prefixed, q.opcode))
    ((Instr.row_of_encode he).trans hr.symm) hb

end

/-! ### The obligations -/

/-- Settles O27: the costs are part of every form's effect; a row is the first one whose key is the instruction's. -/
theorem everyInstructionPaysItsCost : Obligations.EveryInstructionPaysItsCost := by
  unfold Obligations.EveryInstructionPaysItsCost
  refine ⟨fun i s t h => (exec_effect h).credit, fun s t c h => runCommand_settle_credit h,
    fun s hc i => ⟨State.firstCost_nil hc i, State.takenCost_nil hc i⟩, fun s before after r i hp hb he => ?_,
    fun s hp c => ⟨State.lead_nil hp c, State.cut_nil hp c⟩, fun s before after r i hp hc hb he => ?_⟩
  · have row := State.costRow_of_first (s := s) he rfl hp hb
    exact ⟨by rw [State.firstCost, row], by rw [State.takenCost, row]⟩
  · have lead : s.lead (.exec i) = r.lead := by
      rw [State.lead, show (Command.exec i).instr = i from rfl, State.cutRow_of_first he rfl hp hc hb]
    refine ⟨by rw [State.cut, lead], fun hle => ?_⟩
    rw [State.commandCost, lead]
    omega

/-- Settles O28: an instruction is its CPU's registers and published stores, which reach no device; without a store it
is the CPU alone. -/
theorem onlyStoresTouchTheMachine : Obligations.OnlyStoresTouchTheMachine := by
  unfold Obligations.OnlyStoresTouchTheMachine
  intro i s t h
  have moves := exec_moves h
  obtain ⟨bios, clock, apuRuns, params, hostInput, mbcReports, shelf⟩ := moves.kept
  obtain ⟨timaAcc, bitmap, framesReady⟩ := moves.devices
  exact ⟨fun hs => exec_cpuOnly hs h, clock, params, bios, hostInput, mbcReports, shelf, apuRuns, timaAcc, bitmap,
    framesReady⟩

theorem Instr.imeAfter_getD (i : Instr) (b : Bool) :
    i.imeAfter.getD b = if i = .ei ∨ i = .reti then true else if i = .di then false else b := by
  by_cases hei : i = .ei
  · subst hei; rfl
  by_cases hreti : i = .reti
  · subst hreti; rfl
  by_cases hdi : i = .di
  · subst hdi; rfl
  rw [if_neg (by simp [hei, hreti]), if_neg hdi, Instr.imeAfter] <;> simp_all

/-- Settles O29: `PC`, `IME` and the flags are part of every form's effect. -/
theorem whoChangesWhat : Obligations.WhoChangesWhat := by
  unfold Obligations.WhoChangesWhat
  intro i s t h
  obtain ⟨-, pc, ime, flags, -⟩ := exec_effect h
  exact ⟨pc, ime.trans (Instr.imeAfter_getD i _), flags.resolve_left⟩

end Machine

end Sys2Proof
end

section
/-! SUPPORT. The run loop and the interrupts (R310 to R323): the turn by its four cases, the fetch of a decoded
instruction, and the entry's exact state. -/

namespace Sys2Proof.Machine

variable {s t : State}

/-! ### The turn of `CPU.run` -/

theorem cpuTurn_spent (h : s.cpu.credit ≤ 0) : cpuTurn s = .next (s.setPhase (.mmu 114)) := if_pos h

theorem cpuTurn_queued {c : Command} (h : 0 < s.cpu.credit) (hq : s.cpu.queue = some c) :
    cpuTurn s = runCommand c ((s.setQueue none).settle c) := by
  rw [cpuTurn, if_neg (by omega), hq]

theorem cpuTurn_empty (h : 0 < s.cpu.credit) (hq : s.cpu.queue = none) :
    cpuTurn s = if s.interruptDue then s.takeInterrupt (lowestBit s.pending) else fetchTurn s := by
  rw [cpuTurn, if_neg (by omega), hq]

theorem step_cpu (h : s.clock.phase = .cpu) : step s = cpuTurn s := by rw [step, h]

/-- No interrupt is due without `IME`, or where none of the five is enabled and requested (R320). -/
theorem not_interruptDue (h : s.cpu.ime = false ∨ s.pending = 0) : s.interruptDue = false := by
  rw [State.interruptDue]
  rcases h with h | h <;> rw [h]
  · rfl
  · exact Bool.and_false _

theorem State.pending_eq_zero (h : ∀ i, s.pending.getLsbD i = false) : s.pending = 0 :=
  BitVec.eq_of_getLsbD_eq fun i _ => (h i).trans BitVec.getLsbD_zero.symm

/-- Settles O31: each case is one branch of the turn; the five bits of `pending` are the stated ones. -/
theorem runLoop : Obligations.RunLoop := by
  unfold Obligations.RunLoop
  intro s hp due
  have hdue : ∀ i, s.pending.getLsbD i = due i := fun i => by
    rw [s.getLsbD_pending, Bool.and_comm, ← Bool.and_assoc]
  rw [step_cpu hp]
  refine ⟨cpuTurn_spent, fun c hc hq => cpuTurn_queued hc hq, fun c hc hp => State.commandCost_nil hc hp c,
    fun i n c => ⟨rfl, rfl⟩, fun i hc hq hime hi below => ?_, fun hc hq h => ?_⟩
  · have hlt : i < 5 := by simp only [due, Bool.and_eq_true, decide_eq_true_eq] at hi; exact hi.1.1
    rw [← step_cpu hp]
    exact step_takes hp hc hq hime hlt ((hdue i).trans hi) fun j hj => (hdue j).trans (below j hj)
  · have none := not_interruptDue (h.imp_right fun h => State.pending_eq_zero fun i => (hdue i).trans (h i))
    rw [cpuTurn_empty hc hq, none]
    rfl

/-! ### The fetch of a decoded instruction -/

theorem State.fetched_of_decode {i : Instr} {rest : List Byte}
    (h : decode [s.read s.cpu.pc, s.read (s.cpu.pc + 1), s.read (s.cpu.pc + 2)] = .ok (i, rest)) : s.fetched = i := by
  rw [decode_three] at h
  cases h
  rfl

/-- A cut instruction runs its first micro-op; the rest of the chain is queued (R311, R313). -/
theorem fetchTurn_of_lead_cons {n : Nat} {l : List Nat} (h : s.lead (.exec s.fetched) = n :: l) :
    fetchTurn s = .next (((s.past s.fetched).setQueue (some (l.foldr .after (.exec s.fetched)))).charge n) := by
  rw [fetchTurn, State.fetchedCommand, State.cut, h]
  exact congrArg (runCommand _) (State.settle_after (s := s.past s.fetched) _ _)

theorem State.settle_exec_of_lead_nil {i : Instr} (h : s.lead (.exec i) = []) :
    s.settle (.exec i) = { s with cpu := { s.cpu with credit := s.cpu.credit + i.cost - s.firstCost i } } := by
  rw [State.settle, State.commandCost, h]
  rfl

/-- Settles O30: the fetched instruction is the decoded one, and the turn runs it whole or its first micro-op. -/
theorem stepRunsTheDecodedInstruction : Obligations.StepRunsTheDecodedInstruction := by
  unfold Obligations.StepRunsTheDecodedInstruction
  refine fun s i rest => ⟨?_, fun hp => by rw [step, hp]; rfl⟩
  intro hf hd past
  obtain rfl := State.fetched_of_decode hd
  rw [hf.step]
  refine ⟨fetchTurn_nil, fun hl => ?_, fun n l hl => fetchTurn_of_lead_cons hl⟩
  rw [fetchTurn_of_lead_nil hl, State.settle_exec_of_lead_nil (s := s.past s.fetched) hl]
  rfl

/-! ### The entry -/

/-- A word pushed is two published stores below the old `SP` (R10, R77). -/
theorem State.push16_eq {w : Word} (okLow : s.writeFault (s.cpu.sp - 2) (lo w) = none)
    (okHigh : (s.written (s.cpu.sp - 2) (lo w)).writeFault (s.cpu.sp - 1) (hi w) = none) :
    s.push16 w = .next (((s.written (s.cpu.sp - 2) (lo w)).written (s.cpu.sp - 1) (hi w)).setSp (s.cpu.sp - 2)) := by
  rw [show s.cpu.sp - 1 = s.cpu.sp - 2 + 1 by bv_omega] at okHigh ⊢
  have moved (u : State) (a : Word) (v : Byte) :
      (u.setSp (s.cpu.sp - 2)).written a v = (u.written a v).setSp (s.cpu.sp - 2) := by
    rw [State.setSp, State.written_withCpu, State.setSp, State.written_cpu]
  refine State.writeWord_next.mpr ⟨okLow, ?_, ?_⟩
  · rw [moved]; exact okHigh
  · rw [moved, moved]

/-- Settles O32: the push goes through, and the store at `IF` cannot fail (R92). -/
theorem interruptEntry : Obligations.InterruptEntry := by
  unfold Obligations.InterruptEntry
  intro s i hi a u w okLow okHigh
  have mask : (1 : Byte) <<< i = BitVec.ofNat 8 (2 ^ i) := by interval_cases i <;> rfl
  have entered : (w.setSp a).writeByte 0xFF0F ((w.setSp a).read 0xFF0F &&& ~~~((1 : Byte) <<< i)) =
      .next ((w.setSp a).written 0xFF0F (w.read 0xFF0F &&& ~~~(BitVec.ofNat 8 (2 ^ i)))) := by
    rw [mask]
    exact State.writeByte_next.mpr ⟨State.writeFault_high _ _ (by decide), rfl⟩
  have hcpu : w.cpu = s.cpu := (u.written_cpu _ _).trans (s.written_cpu _ _)
  rw [State.takeInterrupt, State.push16_eq okLow okHigh, andThen, entered, andThen, State.setSp, State.written_withCpu,
    hcpu]
  rfl

end Sys2Proof.Machine
end

section
/-! SUPPORT. How a run can end (R330 to R333, R92, V17): which faults each shape, each instruction and each unit's turn
can answer, and that only the host's insertion is ever refused. -/

namespace Sys2Proof.Machine

variable {s t : State} {P Q : Fault → Prop} {r : Result}

/-! ### Answers -/

/-- The answer goes on or is a fault for one of the reasons in `P`; it is no refusal. -/
def EndsBy (P : Fault → Prop) (r : Result) : Prop :=
  match r with
  | .next _ => True
  | .fault x => P x
  | .refused _ => False

theorem EndsBy.fault (h : EndsBy P r) {x : Fault} (e : r = .fault x) : P x := by subst e; exact h

theorem EndsBy.refused (h : EndsBy P r) {x : Refusal} (e : r = .refused x) : False := by subst e; exact h

theorem EndsBy.mono (h : EndsBy P r) (hPQ : ∀ x, P x → Q x) : EndsBy Q r := by
  cases r with
  | next u => trivial
  | fault x => exact hPQ x h
  | refused x => exact h

theorem EndsBy.andThen {f : State → Result} (h : EndsBy P r) (hf : ∀ u, r = .next u → EndsBy P (f u)) :
    EndsBy P (andThen r f) := by
  cases r with
  | next u => exact hf u rfl
  | fault x => exact h
  | refused x => exact h

/-! ### Stores -/

/-- `d` is the Cartridge `c` with other bank registers at most. -/
def Cartridge.SameBytes (c d : Cartridge) : Prop :=
  d = { c with ramEnable := d.ramEnable, romLow := d.romLow, hi2 := d.hi2, ramBank := d.ramBank, mode := d.mode }

theorem Cartridge.SameBytes.refl (c : Cartridge) : c.SameBytes c := rfl

theorem Cartridge.SameBytes.trans {c d e : Cartridge} (h : c.SameBytes d) (k : d.SameBytes e) : c.SameBytes e := by
  unfold Cartridge.SameBytes at *
  rw [k, h]

theorem Cartridge.sameBytes_select (c : Cartridge) (a : Nat) (v : Byte) : c.SameBytes (c.select a v) := by
  unfold Cartridge.select
  repeat' split
  all_goals rfl

/-- An address of the ROM range names no byte of cartridge RAM. -/
theorem State.place_low_ne_cartRam {a : Word} (ha : a.toNat ≤ 0x7FFF) (i : Nat) : s.place a ≠ .cartRam i := by
  rw [State.place_eq]
  split
  · exact nofun
  · split
    · next c _ =>
      split
      · rw [Cartridge.place, if_pos ha]; exact nofun
      · exact nofun
    · exact nofun

theorem State.placeWrite_cart {p : Place} (v : Byte) (h : ∀ i, p ≠ .cartRam i) : (s.placeWrite p v).cart = s.cart := by
  unfold State.placeWrite
  split
  · next i => exact absurd rfl (h i)
  · unfold State.ramWrite; split <;> rfl
  · rfl

/-- A store into the ROM range moves the Cartridge's registers at most. -/
theorem State.written_cart_low {a : Word} (v : Byte) (ha : a.toNat ≤ 0x7FFF) :
    (s.written a v).cart = s.cart ∨ ∃ c, s.cart = some c ∧ (s.written a v).cart = some (c.select a.toNat v) := by
  have kept := s.placeWrite_cart v (State.place_low_ne_cartRam (s := s) ha)
  rw [State.written, State.subscribers_cart]
  show (s.placeWrite (s.place a) v).cartSelect a.toNat v = _ ∨
    ∃ c, _ ∧ (s.placeWrite (s.place a) v).cartSelect a.toNat v = _
  rw [← kept]
  exact State.cartSelect_cases _ _ _

/-- A store that the Cartridge in the slot answers with an MBC1 bank that does not exist (R92). -/
def State.BankFaults (s : State) (x : Fault) : Prop :=
  s.params.bankOor = .fault ∧ ∃ c d, s.cart = some c ∧ c.kind = .mbc1 ∧ c.SameBytes d ∧ x = .bankOutOfRange d

theorem Cartridge.outOfRange_iff (c : Cartridge) (a : Nat) : c.outOfRange a = true ↔ c.kind = .mbc1 ∧ 0x2000 ≤ a ∧
    a ≤ 0x7FFF ∧ (c.romBanks ≤ c.romIndex ∨ c.ramBanks ≤ c.ramBank.toNat) := by
  unfold Cartridge.outOfRange
  cases c.kind <;> simp [and_assoc]

theorem State.BankFaults.of_writeFault {a : Word} {v : Byte} {x : Fault} (h : s.writeFault a v = some x) :
    s.BankFaults x := by
  obtain ⟨hp, -, c, hc, ho, rfl⟩ := State.writeFault_some.mp h
  obtain ⟨hk, -⟩ := (Cartridge.outOfRange_iff _ _).mp ho
  exact ⟨hp, c, _, hc, (c.select_kind _ _).symm.trans hk, c.sameBytes_select _ _, rfl⟩

/-- The second store of a word that ends the run comes after one that has only moved the bank registers. -/
theorem State.BankFaults.of_second {a : Word} {v w : Byte} {x : Fault}
    (h : (s.written a v).writeFault (a + 1) w = some x) : s.BankFaults x := by
  obtain ⟨-, -, _, -, ho, -⟩ := State.writeFault_some.mp h
  obtain ⟨-, hlow, hhigh, -⟩ := (Cartridge.outOfRange_iff _ _).mp ho
  have ha : a.toNat ≤ 0x7FFF := by bv_omega
  obtain ⟨hp, c', d, hc', hk, hd, rfl⟩ := State.BankFaults.of_writeFault h
  rw [State.written_params] at hp
  rcases s.written_cart_low v ha with e | ⟨c, hc, e⟩ <;> rw [e] at hc'
  · exact ⟨hp, c', d, hc', hk, hd, rfl⟩
  · cases hc'
    exact ⟨hp, c, d, hc, (c.select_kind _ _).symm.trans hk, (c.sameBytes_select _ _).trans hd, rfl⟩

theorem writeByte_endsBy (s : State) (a : Word) (v : Byte) : EndsBy s.BankFaults (s.writeByte a v) := by
  unfold State.writeByte
  split
  · next x hx => exact .of_writeFault hx
  · trivial

theorem writeWord_endsBy (s : State) (a w : Word) : EndsBy s.BankFaults (s.writeWord a w) := by
  refine (writeByte_endsBy s a _).andThen fun u hu => ?_
  obtain ⟨-, rfl⟩ := State.writeByte_next.mp hu
  unfold State.writeByte
  split
  · next x hx => exact .of_second hx
  · trivial

theorem push16_endsBy (s : State) (w : Word) : EndsBy s.BankFaults (s.push16 w) :=
  writeWord_endsBy (s.setSp (s.cpu.sp - 2)) _ w

theorem storeByte_endsBy (s : State) (a : Word) (v : Byte) (n : Nat) : EndsBy s.BankFaults (storeByte a v n s) :=
  (writeByte_endsBy s a v).andThen fun _ _ => trivial

theorem stepMem_endsBy (s : State) (x : AluResult) (n : Nat) : EndsBy s.BankFaults (stepMem x n s) :=
  (writeByte_endsBy s _ _).andThen fun _ _ => trivial

theorem storeAStepHl_endsBy (s : State) (w : Word) (n : Nat) : EndsBy s.BankFaults (storeAStepHl w n s) :=
  (writeByte_endsBy s _ _).andThen fun _ _ => trivial

theorem storeWord_endsBy (s : State) (a w : Word) (n : Nat) : EndsBy s.BankFaults (storeWord a w n s) :=
  (writeWord_endsBy s a w).andThen fun _ _ => trivial

theorem pushWord_endsBy (s : State) (w : Word) (n : Nat) : EndsBy s.BankFaults (pushWord w n s) :=
  (push16_endsBy s w).andThen fun _ _ => trivial

theorem callTo_endsBy (s : State) (w : Word) (n : Nat) : EndsBy s.BankFaults (callTo w n s) :=
  (push16_endsBy s _).andThen fun _ _ => trivial

theorem continueIf_endsBy (b : Bool) (k : Command) (n : Nat) (s : State) : EndsBy P (continueIf b k n s) := by
  cases b <;> trivial

theorem haltTurn_endsBy (s : State) : EndsBy P (haltTurn s) := by
  rw [haltTurn_next.mpr rfl]; trivial

theorem stopTurn_endsBy (s : State) : EndsBy P (stopTurn s) := by
  rw [stopTurn_next.mpr rfl]; trivial

/-! ### Instructions and Commands -/

/-- The reasons for which the meaning of `i` can end the run (R331, R332, R92). -/
def State.InstrFaults (s : State) (i : Instr) (x : Fault) : Prop :=
  (∃ b ∈ unmappedBytes, encode i = [b] ∧ x = .instructionNotFound b false) ∨
    (s.params.stop = .refuse ∧ x = .instructionNotImplemented 0x10) ∨ s.BankFaults x

theorem stopByParam_endsBy (s : State) :
    EndsBy (fun x => s.params.stop = .refuse ∧ x = .instructionNotImplemented 0x10) (stopByParam s) := by
  unfold stopByParam
  split
  · next h => exact ⟨h, rfl⟩
  · trivial
  · exact stopTurn_endsBy s

theorem EndsBy.stores {i : Instr} (h : EndsBy s.BankFaults r) : EndsBy (s.InstrFaults i) r :=
  h.mono fun _ hx => .inr (.inr hx)

theorem unmapped_endsBy {i : Instr} {b : Byte} (he : encode i = [b]) (hb : b ∈ unmappedBytes) :
    EndsBy (s.InstrFaults i) (unmapped b s) := .inl ⟨b, hb, he, rfl⟩

/-- How every instruction can end. -/
theorem exec_endsBy (i : Instr) (s : State) : EndsBy (s.InstrFaults i) (exec i s) := by
  cases i.view with
  | load dst r => rw [exec_load]; trivial
  | loadHl dst => rw [exec_loadHl]; trivial
  | storeHl r => rw [exec_storeHl]; exact (storeByte_endsBy s _ _ _).stores
  | loadImm dst n => rw [exec_loadImm]; trivial
  | storeHlImm n => exact (storeByte_endsBy s _ _ _).stores
  | alu op x => rw [exec_alu]; split <;> trivial
  | inc r => rw [exec_inc]; trivial
  | dec r => rw [exec_dec]; trivial
  | incHl | decHl => exact (stepMem_endsBy s _ _).stores
  | ldPair p nn => rw [exec_ldPair]; trivial
  | addHl p => rw [exec_addHl]; trivial
  | incPair p => rw [exec_incPair]; trivial
  | decPair p => rw [exec_decPair]; trivial
  | push q => rw [exec_push]; exact (pushWord_endsBy s _ _).stores
  | pop q => rw [exec_pop]; trivial
  | jrCond cc e => rw [exec_jrCond]; exact continueIf_endsBy ..
  | jpCond cc nn => rw [exec_jpCond]; exact continueIf_endsBy ..
  | callCond cc nn => rw [exec_callCond]; exact continueIf_endsBy ..
  | retCond cc => rw [exec_retCond]; exact continueIf_endsBy ..
  | rst k => rw [exec_rst]; exact (callTo_endsBy s _ _).stores
  | rot op r => rw [exec_rot]; trivial
  | rotHl op => rw [exec_rotHl]; exact (stepMem_endsBy s _ _).stores
  | bit b r => rw [exec_bit]; trivial
  | bitHl b => rw [exec_bitHl]; trivial
  | res b r => rw [exec_res]; trivial
  | resHl b => rw [exec_resHl]; exact (storeByte_endsBy s _ _ _).stores
  | set b r => rw [exec_set]; trivial
  | setHl b => rw [exec_setHl]; exact (storeByte_endsBy s _ _ _).stores
  | ld_mbc_a | ld_mde_a | ldh_mn_a | ldh_mc_a | ld_mnn_a => exact (storeByte_endsBy s _ _ _).stores
  | ld_mhli_a | ld_mhld_a => exact (storeAStepHl_endsBy s _ _).stores
  | ld_mnn_sp => exact (storeWord_endsBy s _ _ _).stores
  | call_nn => exact (callTo_endsBy s _ _).stores
  | halt => exact haltTurn_endsBy s
  | stop => exact (stopByParam_endsBy s).mono fun _ hx => .inr (.inl hx)
  | illegal_d3 | illegal_db | illegal_dd | illegal_e3 | illegal_e4 | illegal_eb | illegal_ec | illegal_ed | illegal_f4
  | illegal_fc | illegal_fd => exact unmapped_endsBy rfl (by decide)
  | _ => trivial

/-- A Command that is no instruction's own can end the run only by its stores. -/
theorem runCommand_endsBy (c : Command) (s : State) :
    EndsBy (fun x => s.BankFaults x ∨ ∃ i, c = .exec i ∧ s.InstrFaults i x) (runCommand c s) := by
  cases c with
  | exec i => exact (exec_endsBy i s).mono fun _ hx => .inr ⟨i, rfl, hx⟩
  | callTo cc w => exact (callTo_endsBy s _ _).mono fun _ => .inl
  | haltWait => exact haltTurn_endsBy s
  | stopWait => exact stopTurn_endsBy s
  | _ => trivial

/-! ### Turns and steps -/

/-- The reasons for which a step can end the run. -/
def State.StepFaults (s : State) (x : Fault) : Prop :=
  (∃ b ∈ unmappedBytes, x = .instructionNotFound b false) ∨
    (s.params.stop = .refuse ∧ x = .instructionNotImplemented 0x10) ∨ s.BankFaults x

theorem State.InstrFaults.step {i : Instr} {x : Fault} (h : s.InstrFaults i x) : s.StepFaults x :=
  h.imp_left fun ⟨b, hb, _, hx⟩ => ⟨b, hb, hx⟩

theorem runCommand_endsBy_step (c : Command) (s : State) : EndsBy s.StepFaults (runCommand c s) := by
  refine (runCommand_endsBy c s).mono fun x hx => ?_
  rcases hx with hx | ⟨i, -, hx⟩
  · exact .inr (.inr hx)
  · exact hx.step

/-- The store at `IF` that an entry makes after its push cannot fail (R92). -/
theorem takeInterrupt_endsBy (s : State) (i : Nat) : EndsBy s.BankFaults (s.takeInterrupt i) := by
  refine (push16_endsBy s _).andThen fun u _ => ?_
  rw [State.writeByte_next.mpr ⟨State.writeFault_high u _ (by decide), rfl⟩]
  trivial

theorem cpuTurn_endsBy (s : State) : EndsBy s.StepFaults (cpuTurn s) := by
  unfold cpuTurn
  split
  · trivial
  split
  · exact runCommand_endsBy_step _ ((s.setQueue none).settle _)
  · split
    · exact (takeInterrupt_endsBy s _).mono fun _ hx => .inr (.inr hx)
    · exact runCommand_endsBy_step _ ((s.past s.fetched).settle _)

theorem dmaTurn_endsBy (n : Nat) (s : State) : EndsBy s.StepFaults (dmaTurn n s) := by
  unfold dmaTurn
  split
  · next n c rest _ =>
    have stored := writeByte_endsBy ({ s with dmaQueue := rest }.setPhase (.mmu n)) c.dst (s.read c.src)
    exact stored.mono fun _ hx => .inr (.inr hx)
  · trivial

/-! ### The host -/

/-- The host's operations raise no fault, and the one refusal is that of a ROM image (R85, V17). -/
def HostEnds (r : Result) : Prop :=
  match r with
  | .next _ => True
  | .fault _ => False
  | .refused x => ∃ len, x = .cartridgeRefused len

theorem hostAction_ends (x : HostAction) (s : State) : HostEnds (hostAction x s) := by
  cases x with
  | insert len rom =>
    show HostEnds (insertRom len rom s)
    unfold insertRom
    split
    · exact ⟨len, rfl⟩
    · dsimp only; split <;> trivial
  | _ => trivial

theorem hostActions_ends (xs : List HostAction) (s : State) : HostEnds (hostActions xs s) := by
  induction xs generalizing s with
  | nil => trivial
  | cons x xs ih =>
    have hx := hostAction_ends x s
    rw [hostActions]
    cases e : hostAction x s with
    | next u => exact ih u
    | fault f => rw [e] at hx; exact hx
    | refused f => rw [e] at hx; exact hx

theorem endSlice_ends (s : State) : HostEnds (endSlice s) := by
  unfold endSlice
  dsimp only
  split
  · unfold frameBoundary
    split
    · trivial
    · exact hostActions_ends _ _
  · trivial

/-- Every step but the one that ends a slice is refused nothing, and ends the run for one of the reasons above. -/
theorem step_endsBy (s : State) : s.clock.phase = .timer 0 ∧ HostEnds (step s) ∨ EndsBy s.StepFaults (step s) := by
  unfold step
  cases h : s.clock.phase with
  | cpuCall => exact .inr (cpuTurn_endsBy s.enterCpu)
  | cpu => exact .inr (cpuTurn_endsBy s)
  | mmu n => exact .inr (dmaTurn_endsBy n s)
  | ppu | apu => exact .inr trivial
  | timer left =>
    cases left with
    | zero => exact .inl ⟨rfl, endSlice_ends s⟩
    | succ n => exact .inr trivial

/-! ### Unmapped bytes -/

/-- The eleven rows are what the eleven bytes decode to (R139). -/
theorem exec_decode3_unmapped {b : Byte} (hb : b ∈ unmappedBytes) (b1 b2 : Byte) (u : State) :
    exec (decode3 b b1 b2) u = unmapped b u ∧ (decode3 b b1 b2).cost = 0 := by
  simp only [unmappedBytes, List.mem_cons, List.not_mem_nil, or_false] at hb
  rcases hb with rfl | rfl | rfl | rfl | rfl | rfl | rfl | rfl | rfl | rfl | rfl <;> exact ⟨rfl, rfl⟩

theorem State.Fetching.step_unmapped (h : s.Fetching) (hb : s.read s.cpu.pc ∈ unmappedBytes) :
    Machine.step s = .fault (.instructionNotFound (s.read s.cpu.pc) false) := by
  have hx := exec_decode3_unmapped hb (s.read (s.cpu.pc + 1)) (s.read (s.cpu.pc + 2))
  rw [h.step, fetchTurn_of_lead_nil (State.lead_of_cost_zero (hx s).2)]
  exact (hx _).1

theorem State.BankFaults.ne_notFound {b : Byte} {e : Bool} : ¬ s.BankFaults (.instructionNotFound b e) := by
  rintro ⟨-, c, d, -, -, -, h⟩
  cases h

/-- A fetch that ends the run with an unmapped byte has read this byte at `PC`. -/
theorem State.Fetching.read_of_step_unmapped {b : Byte} (h : s.Fetching)
    (hs : Machine.step s = .fault (.instructionNotFound b false)) : s.read s.cpu.pc ∈ unmappedBytes := by
  rw [h.step] at hs
  rcases s.cut_cases (.exec s.fetched) with ⟨-, hcut⟩ | ⟨n, l, -, hcut⟩
  · rcases (runCommand_endsBy _ _).fault hs with hx | ⟨i, hi, ⟨b', hb', he, hx⟩ | ⟨-, hx⟩ | hx⟩
    · exact absurd hx State.BankFaults.ne_notFound
    · rw [State.fetchedCommand, hcut] at hi
      cases hi
      obtain ⟨⟨-, k, -, hbytes⟩, -⟩ := decode3_hasBytes (s.read s.cpu.pc) (s.read (s.cpu.pc + 1)) (s.read (s.cpu.pc + 2))
      have head := (hbytes.symm.trans he)
      injection head with head
      rwa [head]
    · cases hx
    · exact absurd hx State.BankFaults.ne_notFound
  · rw [fetchTurn, State.fetchedCommand, hcut] at hs
    cases hs

theorem HostEnds.ne_fault {x : Fault} (h : HostEnds r) : r ≠ .fault x := by rintro rfl; exact h

/-- Every fault of a step has one of the reasons above. -/
theorem stepFaults_of_step {x : Fault} (h : step s = .fault x) : s.StepFaults x := by
  rcases step_endsBy s with ⟨-, he⟩ | he
  · exact absurd h he.ne_fault
  · exact he.fault h

/-- Settles O33: the rows by evaluation; a fetch runs the row of the byte at `PC`, and no other part of a turn raises
this fault. -/
theorem unmappedBytesAreFatal : Obligations.UnmappedBytesAreFatal := by
  unfold Obligations.UnmappedBytesAreFatal
  refine ⟨fun s => ⟨rfl, rfl, rfl, rfl, rfl, rfl, rfl, rfl, rfl, rfl, rfl⟩, fun s hf => ⟨⟨?_, ?_⟩, hf.step_unmapped⟩,
    fun s b h => ?_⟩
  · rintro ⟨b, h⟩
    exact hf.read_of_step_unmapped h
  · exact fun h => ⟨_, hf.step_unmapped h⟩
  · rcases stepFaults_of_step h with ⟨b', -, hx⟩ | ⟨-, hx⟩ | hx
    · cases hx
    · cases hx
    · exact absurd hx State.BankFaults.ne_notFound

/-! ### How a run ends -/

/-- Above the BIOS an MBC1 owns every address of the ROM range (R81, R87). -/
theorem State.resolve_mbc1 {c : Cartridge} {a : Word} (hc : s.cart = some c) (hk : c.kind = .mbc1)
    (hlow : 0x2000 ≤ a.toNat) (hhigh : a.toNat ≤ 0x7FFF) : s.resolve a.toNat = some .cartridge := by
  rw [State.resolve_cartridge, hc]
  refine ⟨by omega, ?_⟩
  simp [Cartridge.contains, hk, hhigh]

/-- Settles O34: the reasons of every unit's turn, and the store's fault by the bank registers it would leave. -/
theorem howARunEnds : Obligations.HowARunEnds := by
  unfold Obligations.HowARunEnds
  refine ⟨fun s a h => ?_, fun s x h => ?_, fun s r h => ?_, fun s a v x => ⟨fun h => ?_, ?_⟩⟩
  · rcases stepFaults_of_step h with ⟨b, -, hx⟩ | ⟨-, hx⟩ | ⟨-, c, d, -, -, -, hx⟩ <;> cases hx
  · refine (stepFaults_of_step h).imp_right (.imp_right ?_)
    rintro ⟨hp, c, d, hc, hk, hd, rfl⟩
    exact ⟨hp, c, d, hc, hk, hd, rfl⟩
  · rcases step_endsBy s with ⟨hp, he⟩ | he
    · rw [h] at he
      exact ⟨hp, he⟩
    · exact (he.refused h).elim
  · obtain ⟨hp, -, c, hc, ho, hx⟩ := State.writeFault_some.mp h
    obtain ⟨hk, hlow, hhigh, hbank⟩ := (Cartridge.outOfRange_iff _ _).mp ho
    exact ⟨hp, c, hc, (c.select_kind _ _).symm.trans hk, hlow, hhigh, hbank, hx⟩
  · rintro ⟨hp, c, hc, hk, hlow, hhigh, hbank, hx⟩
    exact State.writeFault_some.mpr ⟨hp, State.resolve_mbc1 hc hk hlow hhigh, c, hc,
      (Cartridge.outOfRange_iff _ _).mpr ⟨(c.select_kind _ _).trans hk, hlow, hhigh, hbank⟩, hx⟩

end Sys2Proof.Machine
end

section
/-! SUPPORT. The bus (R60 to R84): the place of every address, reads after a store at a place, stores that no subscriber
watches, and the MBC1's bank registers. -/

namespace Sys2Proof.Machine

variable {s : State} {a b : Word} {v : Byte} {c : Cartridge}

/-! ### Where an address leads -/

theorem Cartridge.contains_iff (c : Cartridge) (n : Nat) :
    c.contains n = true ↔ c.kind ≠ .inert ∧ (n ≤ 0x7FFF ∨ 0xA000 ≤ n ∧ n ≤ 0xBFFF) := by
  unfold Cartridge.contains
  cases c.kind <;> simp

theorem State.place_bios (hb : s.biosMapped = true) (ha : a.toNat ≤ 0xFF) : s.place a = .bios a.toNat := by
  rw [State.place_eq, if_pos ⟨hb, ha⟩]

/-- An address of the Cartridge's own regions, where the BIOS does not lie over it (R65, R81). -/
theorem State.place_cart (hc : s.cart = some c) (hk : c.kind ≠ .inert) (hb : ¬ (s.biosMapped = true ∧ a.toNat ≤ 0xFF))
    (ha : a.toNat ≤ 0x7FFF ∨ 0xA000 ≤ a.toNat ∧ a.toNat ≤ 0xBFFF) : s.place a = c.place a.toNat := by
  rw [State.place_eq, if_neg hb, hc]
  exact if_pos ((c.contains_iff _).mpr ⟨hk, ha⟩)

/-- An address that neither the BIOS nor the Cartridge owns. -/
theorem State.place_ram (hb : ¬ (s.biosMapped = true ∧ a.toNat ≤ 0xFF))
    (hc : ∀ c, s.cart = some c → c.contains a.toNat = false) : s.place a = ramPlace a.toNat := by
  rw [State.place_eq, if_neg hb]
  cases h : s.cart with
  | none => rfl
  | some c => exact if_neg (by rw [hc c h]; decide)

theorem Cartridge.place_rom (c : Cartridge) {n : Nat} (h : n ≤ 0x7FFF) : c.place n = .rom (c.romOffset n) := if_pos h

theorem Cartridge.place_window (c : Cartridge) {n : Nat} (h : 0xA000 ≤ n) :
    c.place n = if c.ramEnabled = true then .cartRam (c.ramOffset n) else .disabled := if_neg (by omega)

theorem Cartridge.romOffset_low (c : Cartridge) {n : Nat} (h : c.kind ≠ .mbc1 ∨ n ≤ 0x3FFF) : c.romOffset n = n :=
  if_neg fun ⟨hk, hn⟩ => h.elim (absurd hk) fun h => by omega

/-- Counting modulo the number of banks changes no bank that exists. -/
theorem mod_eq_ite (m n : Nat) : m % n = if m < n then m else m % n := by
  split
  · exact Nat.mod_eq_of_lt ‹_›
  · rfl

theorem BitVec5.toNat_pos {x : BitVec 5} (h : x ≠ 0) : 0 < x.toNat := by
  refine Nat.pos_of_ne_zero fun e => h ?_
  exact BitVec.eq_of_toNat_eq e

/-- The switchable window of an MBC1 (R87, R92). -/
theorem Cartridge.romOffset_bank (hk : c.kind = .mbc1) (hr : c.romLow ≠ 0) {n : Nat} (hn : 0x4000 ≤ n) :
    c.romOffset n = (if c.hi2.toNat * 32 + c.romLow.toNat < c.romLength / 0x4000 then c.hi2.toNat * 32 + c.romLow.toNat
      else (c.hi2.toNat * 32 + c.romLow.toNat) % (c.romLength / 0x4000)) * 0x4000 + (n - 0x4000) := by
  have hpos := BitVec5.toNat_pos hr
  rw [Cartridge.romOffset, if_pos ⟨hk, hn⟩, Cartridge.romIndex, Nat.sub_add_cancel (by omega), ← mod_eq_ite]

theorem Cartridge.ramOffset_eq (c : Cartridge) (n : Nat) : c.ramOffset n =
    (if c.kind = .mbc1 then c.ramBank.toNat % c.ramBanks else 0) * 0x2000 + (n - 0xA000) % c.ramBankLength := by
  unfold Cartridge.ramOffset
  cases c.kind <;> rfl

theorem Cartridge.ramBankLength_eq (c : Cartridge) : c.ramBankLength =
    if c.kind = .mbc1 ∧ ¬ (Memory.read c.rom 0x0149 = 2 ∨ Memory.read c.rom 0x0149 = 3) then 0x0800 else 0x2000 := by
  unfold Cartridge.ramBankLength
  cases c.kind with
  | mbc1 =>
    dsimp only
    by_cases h : Memory.read c.rom 0x0149 = 2 ∨ Memory.read c.rom 0x0149 = 3
    · rw [if_pos h, if_neg fun e => e.2 h]
    · rw [if_neg h, if_pos ⟨rfl, h⟩]
  | _ => rfl

theorem Cartridge.ramBanks_eq (c : Cartridge) :
    c.ramBanks = if c.kind = .mbc1 ∧ Memory.read c.rom 0x0149 = 3 then 4 else 1 := by
  unfold Cartridge.ramBanks
  cases c.kind <;> simp

/-- The RAM window of an MBC1 by the size byte (R31, R85, R87). -/
theorem Cartridge.ramOffset_mbc1 (hk : c.kind = .mbc1) {n : Nat} (hlow : 0xA000 ≤ n) (hhigh : n ≤ 0xBFFF) :
    c.ramOffset n = if Memory.read c.rom 0x0149 = 3 then c.ramBank.toNat * 0x2000 + (n - 0xA000)
      else if Memory.read c.rom 0x0149 = 2 then n - 0xA000 else (n - 0xA000) % 0x0800 := by
  have hbank := c.ramBank.isLt
  have whole : (n - 0xA000) % 0x2000 = n - 0xA000 := Nat.mod_eq_of_lt (by omega)
  rw [Cartridge.ramOffset_eq, if_pos hk, Cartridge.ramBanks_eq, Cartridge.ramBankLength_eq]
  by_cases h3 : Memory.read c.rom 0x0149 = 3
  · rw [if_pos ⟨hk, h3⟩, if_neg fun e => e.2 (.inr h3), if_pos h3, whole, Nat.mod_eq_of_lt hbank]
  have one : ¬ (c.kind = .mbc1 ∧ Memory.read c.rom 0x0149 = 3) := fun e => h3 e.2
  by_cases h2 : Memory.read c.rom 0x0149 = 2
  · rw [if_neg one, if_neg fun e => e.2 (.inl h2), if_neg h3, if_pos h2, whole, Nat.mod_one, Nat.zero_mul, Nat.zero_add]
  · rw [if_neg one, if_pos ⟨hk, not_or.mpr ⟨h2, h3⟩⟩, if_neg h3, if_neg h2, Nat.mod_one, Nat.zero_mul, Nat.zero_add]

theorem Cartridge.ramOffset_mbc0 (hk : c.kind = .mbc0) {n : Nat} (hlow : 0xA000 ≤ n) (hhigh : n ≤ 0xBFFF) :
    c.ramOffset n = n - 0xA000 := by
  rw [Cartridge.ramOffset_eq, if_neg (by simp [hk]), Cartridge.ramBankLength_eq, if_neg (by simp [hk]), Nat.zero_mul,
    Nat.zero_add, Nat.mod_eq_of_lt (by omega)]

theorem Cartridge.ramEnabled_mbc0 (hk : c.kind = .mbc0) : c.ramEnabled = true := by rw [Cartridge.ramEnabled, hk]

theorem Cartridge.ramEnabled_mbc1 (hk : c.kind = .mbc1) : c.ramEnabled = c.ramEnable := by rw [Cartridge.ramEnabled, hk]

/-! ### Reads after a store at a place -/

/-- No window of a Cartridge moves with the bytes of its RAM. -/
theorem Cartridge.place_ram_bytes (c : Cartridge) (r : List Host.Cell) (n : Nat) :
    ({ c with ram := r } : Cartridge).contains n = c.contains n ∧ ({ c with ram := r } : Cartridge).place n = c.place n :=
  ⟨rfl, rfl⟩

/-- A store moves no window: it leaves every address at its place. -/
theorem State.place_placeWrite (p : Place) (v : Byte) (b : Word) : (s.placeWrite p v).place b = s.place b := by
  unfold State.placeWrite
  split
  · split
    · next c hc =>
      rw [State.place_eq, State.place_eq, hc]
      dsimp only
      rw [(c.place_ram_bytes _ _).1, (c.place_ram_bytes _ _).2]
    · rfl
  · unfold State.ramWrite
    split <;> refine State.place_congr ?_ ?_ b <;> rfl
  · rfl

theorem sound_getD_set (x : Vector Byte 48) {i j : Nat} (v : Byte) (hi : i < 48) :
    (x.setIfInBounds i v).getD j 0 = if j = i then v else x.getD j 0 := by
  unfold Vector.getD
  rw [Vector.toArray_setIfInBounds]
  simp only [Array.getD_eq_getD_getElem?, Array.getElem?_setIfInBounds]
  have : i < x.toArray.size := by simpa using hi
  by_cases h : j = i
  · subst h; simp [hi]
  · simp [h, Ne.symm h]

theorem State.ramRead_ramWrite (h : Memory.rising s.mem = true) (j k : Nat) (v : Byte) :
    (s.ramWrite k v).ramRead j = if j = k then v else s.ramRead j := by
  unfold State.ramWrite State.ramRead
  by_cases hk : isSound k = true <;> by_cases hj : isSound j = true
  · rw [if_pos hk, if_pos hj, if_pos hj]
    rw [isSound_iff] at hk hj
    rw [sound_getD_set _ _ (by omega)]
    exact if_congr (by omega) rfl rfl
  · rw [if_pos hk, if_neg hj, if_neg (by rintro rfl; exact hj hk), if_neg hj]
  · rw [if_neg hk, if_pos hj, if_pos hj, if_neg (by rintro rfl; exact hk hj)]
  · rw [if_neg hk, if_neg hj, if_neg hj]
    exact Memory.read_write v h

/-- A Cartridge's place has a Cartridge. -/
theorem State.cart_of_place {i : Nat} (h : s.place a = .cartRam i) : ∃ c, s.cart = some c := by
  cases hc : s.cart with
  | some c => exact ⟨c, rfl⟩
  | none =>
    rw [State.place_eq, hc] at h
    split at h <;> cases h

/-- A store at a writable place shows at every address of this place, and nowhere else. -/
theorem State.read_placeWrite (m : s.MemoryInv) (a b : Word) (v : Byte) : (s.placeWrite (s.place a) v).read b =
    if s.place b = s.place a ∧ (s.place a).writable = true then v else s.read b := by
  rw [State.read, State.place_placeWrite, State.read]
  cases ha : s.place a with
  | cartRam i =>
    obtain ⟨c, hc⟩ := State.cart_of_place ha
    have rising := Memory.rising_of_wf (m.cart c hc).2
    cases hb : s.place b <;>
      simp only [State.placeWrite, State.placeRead, hc, Place.cartRam.injEq, reduceCtorEq, Place.writable, and_true,
        if_false, State.ramRead]
    exact Memory.read_write v rising
  | ram k =>
    have rising := Memory.rising_of_wf m.mem
    have kept : (s.ramWrite k v).bios = s.bios ∧ (s.ramWrite k v).cart = s.cart := by
      unfold State.ramWrite; split <;> exact ⟨rfl, rfl⟩
    cases hb : s.place b <;>
      simp only [State.placeWrite, State.placeRead, kept, Place.ram.injEq, reduceCtorEq, Place.writable, and_true,
        if_false]
    exact State.ramRead_ramWrite rising _ _ v
  | _ => exact (if_neg (by simp [Place.writable])).symm

/-! ### Stores that no subscriber watches -/

/-- The addresses of the MMU's subscribers (R95). -/
def watched : List Word := [0xFF50, 0xFF46, 0xFF04, 0xFF02, 0xFF40, 0xFF41, 0xFF45]

theorem plainAddress_iff : plainAddress a = true ↔ 0x8000 ≤ a.toNat ∧ a ∉ watched := by
  simp [plainAddress, watched, and_assoc]

theorem watched_high : ∀ b ∈ watched, 0xFF00 ≤ b.toNat := by simp [watched]

theorem notMem_watched (h : a.toNat < 0xFF00) : a ∉ watched := fun hm => by
  have : 0xFF00 ≤ a.toNat := watched_high a hm
  omega

theorem State.subscribers_unwatched (s : State) (v : Byte) (h : a ∉ watched) : s.subscribers a v = s := by
  have other : ∀ {b}, b ∈ watched → a ≠ b := fun hb e => h (e ▸ hb)
  rcases s.subscribers_cases a v with e | ⟨e, -⟩ | ⟨e, -⟩ | ⟨e, -⟩ | ⟨e, -⟩ | ⟨e, -⟩ | ⟨e, -⟩ | ⟨e, -⟩
  · exact e
  all_goals exact absurd e (other (by decide))

theorem Cartridge.select_of_ne_mbc1 (h : c.kind ≠ .mbc1) (n : Nat) (v : Byte) : c.select n v = c := by
  unfold Cartridge.select
  split
  · contradiction
  · rfl

theorem Cartridge.select_high (c : Cartridge) {n : Nat} (h : 0x8000 ≤ n) (v : Byte) : c.select n v = c := by
  unfold Cartridge.select
  split
  · rw [if_neg (by omega), if_neg (by omega), if_neg (by omega), if_neg (by omega)]
  · rfl

theorem State.placeWrite_kind (hk : ∀ c, s.cart = some c → c.kind ≠ .mbc1) (p : Place) (v : Byte) :
    ∀ c, (s.placeWrite p v).cart = some c → c.kind ≠ .mbc1 := by
  unfold State.placeWrite
  split
  · split
    · next c hc =>
      intro d hd
      cases hd
      exact hk c hc
    · exact hk
  · unfold State.ramWrite
    split <;> exact hk
  · exact hk

/-- Where no MBC listens, a quiet store is the store at the address's place. -/
theorem State.quiet_eq_placeWrite (h : 0x8000 ≤ a.toNat ∨ ∀ c, s.cart = some c → c.kind ≠ .mbc1) (v : Byte) :
    s.quiet a v = s.placeWrite (s.place a) v := by
  have same : (s.placeWrite (s.place a) v).cartSelect a.toNat v = (s.placeWrite (s.place a) v).cart := by
    rcases State.cartSelect_cases (s.placeWrite (s.place a) v) a.toNat v with e | ⟨c, hc, e⟩
    · exact e
    · rw [e, hc]
      rcases h with h | h
      · rw [c.select_high h]
      · rw [Cartridge.select_of_ne_mbc1 (State.placeWrite_kind h _ v c hc)]
  unfold State.quiet
  dsimp only
  rw [same]

theorem State.written_eq_placeWrite (hw : a ∉ watched)
    (h : 0x8000 ≤ a.toNat ∨ ∀ c, s.cart = some c → c.kind ≠ .mbc1) (v : Byte) :
    s.written a v = s.placeWrite (s.place a) v := by
  rw [State.written, State.subscribers_unwatched _ v hw, State.quiet_eq_placeWrite h]

theorem State.read_written_plain (m : s.MemoryInv) (h : plainAddress a = true) (b : Word) (v : Byte) :
    (s.written a v).read b = if s.place b = s.place a ∧ (s.place a).writable = true then v else s.read b := by
  obtain ⟨ha, hw⟩ := plainAddress_iff.mp h
  rw [State.written_eq_placeWrite hw (.inl ha), State.read_placeWrite m]

theorem State.place_written_plain (h : plainAddress a = true) (b : Word) (v : Byte) :
    (s.written a v).place b = s.place b := by
  obtain ⟨ha, hw⟩ := plainAddress_iff.mp h
  rw [State.written_eq_placeWrite hw (.inl ha), State.place_placeWrite]

/-- Settles O35: such a store is the store at the address's place, and no place moves with it. -/
theorem plainStore : Obligations.PlainStore := by
  unfold Obligations.PlainStore
  intro s a v m h
  have written : s.written a v = s.placeWrite (s.place a) v := by
    rcases h with h | ⟨hlow, hk⟩
    · obtain ⟨ha, hw⟩ := plainAddress_iff.mp h
      exact State.written_eq_placeWrite hw (.inl ha) v
    · exact State.written_eq_placeWrite (notMem_watched (by omega)) (.inr fun c hc => by rw [hk c hc]; nofun) v
  rw [written]
  refine ⟨fun b => State.read_placeWrite m a b v, ?_⟩
  cases hp : s.place a with
  | ram k => exact if_congr isSound_iff rfl rfl
  | cartRam i =>
    obtain ⟨c, hc⟩ := State.cart_of_place hp
    simp only [State.placeWrite, hc, Option.map_some]
  | _ => rfl

/-! ### The address map -/

/-- The echo's address shows the byte of work RAM it names, and stores there are stores here (R82). -/
theorem State.place_echo {k : Nat} (hk : k < 0x1E00) : s.place (BitVec.ofNat 16 (0xE000 + k)) =
    s.place (BitVec.ofNat 16 (0xC000 + k % 0x1000)) := by
  have he : (BitVec.ofNat 16 (0xE000 + k)).toNat = 0xE000 + k := Nat.mod_eq_of_lt (by omega)
  have hw : (BitVec.ofNat 16 (0xC000 + k % 0x1000)).toNat = 0xC000 + k % 0x1000 := Nat.mod_eq_of_lt (by omega)
  rw [s.place_high (by omega), s.place_high (by omega), he, hw, ramPlace_own (n := 0xC000 + k % 0x1000) (by omega),
    ramPlace, if_pos (by omega), Nat.add_sub_cancel_left]

theorem State.written_echo {k : Nat} (hk : k < 0x1E00) (v : Byte) : s.written (BitVec.ofNat 16 (0xE000 + k)) v =
    s.written (BitVec.ofNat 16 (0xC000 + k % 0x1000)) v := by
  have he : (BitVec.ofNat 16 (0xE000 + k)).toNat = 0xE000 + k := Nat.mod_eq_of_lt (by omega)
  have hw : (BitVec.ofNat 16 (0xC000 + k % 0x1000)).toNat = 0xC000 + k % 0x1000 := Nat.mod_eq_of_lt (by omega)
  rw [State.written_eq_placeWrite (notMem_watched (by omega)) (.inl (by omega)),
    State.written_eq_placeWrite (notMem_watched (by omega)) (.inl (by omega)), State.place_echo hk]

theorem Cartridge.contains_gap (c : Cartridge) {n : Nat} (h : 0x8000 ≤ n) (h' : n < 0xA000 ∨ 0xBFFF < n) :
    c.contains n = false := by
  rw [Bool.eq_false_iff]
  intro e
  have := (c.contains_iff n).mp e
  omega

/-- Settles O36: first-match resolution, region by region. -/
theorem addressMap : Obligations.AddressMap := by
  unfold Obligations.AddressMap
  refine ⟨fun s a => ⟨fun hb ha => State.place_bios hb ha, fun c hc hk hb => ⟨?_, ?_, ?_, ?_⟩, ?_, ?_⟩,
    fun s k v hk => ⟨?_, State.written_echo hk v⟩, ?_⟩
  · intro ha
    rw [State.place_cart hc hk hb (.inl ha), c.place_rom ha]
  · intro h1 h2
    rw [State.place_cart hc hk hb (.inr ⟨h1, h2⟩), c.place_window h1]
  · intro hk0
    refine ⟨fun ha => ?_, fun h1 h2 => ?_⟩
    · rw [State.place_cart hc hk hb (.inl ha), c.place_rom ha, c.romOffset_low (.inl (by simp [hk0]))]
    · rw [State.place_cart hc hk hb (.inr ⟨h1, h2⟩), c.place_window h1, if_pos (Cartridge.ramEnabled_mbc0 hk0),
        Cartridge.ramOffset_mbc0 hk0 h1 h2]
  · intro hk1
    refine ⟨fun ha => ?_, fun h1 h2 hr => ?_, fun h1 h2 => ?_⟩
    · rw [State.place_cart hc hk hb (.inl (by omega)), c.place_rom (by omega), c.romOffset_low (.inr ha)]
    · rw [State.place_cart hc hk hb (.inl h2), c.place_rom h2, Cartridge.romOffset_bank hk1 hr h1]
    · rw [State.place_cart hc hk hb (.inr ⟨h1, h2⟩), c.place_window h1, Cartridge.ramEnabled_mbc1 hk1,
        Cartridge.ramOffset_mbc1 hk1 h1 h2]
      cases c.ramEnable <;> rfl
  · intro h1 h2
    refine State.place_ram (by omega) fun c hc => ?_
    rcases h2 with h2 | h2 | h2
    · exact c.contains_gap h1 (.inl h2)
    · exact c.contains_gap h1 (.inr h2)
    · rw [h2] at hc; cases hc
  · intro hk hb ha
    rw [State.place_ram hb fun c hc => by rw [Cartridge.contains, hk c hc], ramPlace_own (by omega)]
  · rw [State.read, State.read, State.place_echo hk]
  · intro s a b h1 h2 h
    rw [s.place_high (a := a) (by omega), ramPlace_own (by omega)] at h
    exact BitVec.eq_of_toNat_eq (State.place_ram_own h h1)

/-! ### Words -/

/-- Where an address above the ROM range leads: the Cartridge's RAM window, or the fixed regions. -/
theorem State.place_upper (s : State) (h : 0x8000 ≤ a.toNat) : s.place a = ramPlace a.toNat ∨
    ∃ c, s.cart = some c ∧ 0xA000 ≤ a.toNat ∧ a.toNat ≤ 0xBFFF ∧ s.place a = c.place a.toNat := by
  rw [State.place_eq, if_neg (by omega)]
  cases hc : s.cart with
  | none => exact .inl rfl
  | some c =>
    by_cases h' : c.contains a.toNat = true
    · obtain ⟨-, hr⟩ := (c.contains_iff _).mp h'
      exact .inr ⟨c, rfl, by omega, by omega, if_pos h'⟩
    · exact .inl (if_neg h')

theorem ramPlace_succ_ne (n : Nat) : ramPlace n ≠ ramPlace (n + 1) := by
  intro e
  have e := Place.ram.inj e
  split at e <;> split at e <;> omega

theorem Cartridge.ramOffset_succ_ne (c : Cartridge) {n : Nat} (h : 0xA000 ≤ n) :
    c.ramOffset n ≠ c.ramOffset (n + 1) := by
  rw [Cartridge.ramOffset_eq, Cartridge.ramOffset_eq, Cartridge.ramBankLength_eq]
  by_cases h2K : c.kind = .mbc1 ∧ ¬ (Memory.read c.rom 0x0149 = 2 ∨ Memory.read c.rom 0x0149 = 3)
  · rw [if_pos h2K]; omega
  · rw [if_neg h2K]; omega

/-- Neighbouring addresses above the ROM range never name the same writable byte. -/
theorem State.place_succ_ne (h : 0x8000 ≤ a.toNat) (h' : 0x8000 ≤ (a + 1).toNat)
    (hw : (s.place a).writable = true) : s.place a ≠ s.place (a + 1) := by
  have next : (a + 1).toNat = a.toNat + 1 := by
    rw [BitVec.toNat_add, Nat.mod_eq_of_lt]
    · rfl
    · have := a.isLt
      have one : (1 : Word).toNat = 1 := rfl
      rw [BitVec.toNat_add, one] at h'
      rw [one]
      omega
  intro e
  rcases s.place_upper h with p | ⟨c, hc, hlow, hhigh, p⟩ <;> rcases s.place_upper h' with q | ⟨d, hd, qlow, qhigh, q⟩
  · rw [p, q, next] at e
    exact ramPlace_succ_ne _ e
  · rw [p, q, d.place_window qlow] at e
    split at e <;> cases e
  · rw [p, q, c.place_window hlow] at e
    split at e <;> cases e
  · cases hc.symm.trans hd
    rw [p, q, c.place_window hlow, c.place_window qlow, next] at e
    rw [p, c.place_window hlow] at hw
    split at hw
    · next he =>
      rw [if_pos he, if_pos he] at e
      exact c.ramOffset_succ_ne hlow (Place.cartRam.inj e)
    · cases hw

theorem lo_eq (w : Word) : lo w = BitVec.ofNat 8 (w.toNat % 256) := by
  apply BitVec.eq_of_toNat_eq
  simp [lo]

theorem hi_eq (w : Word) : hi w = BitVec.ofNat 8 (w.toNat / 256) := by
  apply BitVec.eq_of_toNat_eq
  simp [hi, Nat.shiftRight_eq_div_pow]

/-- Settles O37: the second store leaves the first byte alone, for its address names another byte. -/
theorem wordRoundTrip : Obligations.WordRoundTrip := by
  unfold Obligations.WordRoundTrip
  intro s a w m ha hb hwa hwb
  have low := (plainAddress_iff.mp ha).1
  have low' := (plainAddress_iff.mp hb).1
  have differ := State.place_succ_ne low low' hwa
  have m' := m.written a (lo w)
  have readLow : ((s.written a (lo w)).written (a + 1) (hi w)).read a = lo w := by
    rw [State.read_written_plain m' hb, State.place_written_plain ha, State.place_written_plain ha,
      if_neg fun e => differ e.1, State.read_written_plain m ha, if_pos ⟨rfl, hwa⟩]
  have readHigh : ((s.written a (lo w)).written (a + 1) (hi w)).read (a + 1) = hi w := by
    rw [State.read_written_plain m' hb, State.place_written_plain ha, if_pos ⟨rfl, hwb⟩]
  refine ⟨(s.written a (lo w)).written (a + 1) (hi w), ?_, ?_, ?_, ?_⟩
  · exact andThen_next.mpr ⟨_, State.writeByte_next.mpr ⟨s.writeFault_high _ low, rfl⟩,
      State.writeByte_next.mpr ⟨State.writeFault_high _ _ low', rfl⟩⟩
  · rw [State.readWord, readLow, readHigh, word_hi_lo]
  · rw [readLow, lo_eq]
  · rw [readHigh, hi_eq]

/-! ### The Cartridge's registers -/

/-- A store into the ROM range reaches the Cartridge's registers alone, and none of them behind the BIOS (R81, R94). -/
theorem State.written_rom (hc : s.cart = some c) (hk : c.kind ≠ .inert) (ha : a.toNat ≤ 0x7FFF) (v : Byte) :
    s.written a v = if s.biosMapped = true ∧ a.toNat ≤ 0xFF then s else
      { s with cart := some (c.select a.toNat v) } := by
  rw [State.written, State.subscribers_unwatched _ v (notMem_watched (by omega))]
  have owner := s.resolve_cartridge a
  by_cases hb : s.biosMapped = true ∧ a.toNat ≤ 0xFF
  · rw [if_pos hb, State.quiet, State.place_bios hb.1 hb.2]
    show { s with cart := s.cartSelect a.toNat v } = s
    have : s.cartSelect a.toNat v = s.cart := by
      unfold State.cartSelect
      split
      · next e => exact absurd hb (owner.mp e).1
      · rfl
    rw [this]
  · rw [if_neg hb, State.quiet, State.place_cart hc hk hb (.inl ha), c.place_rom ha]
    show { s with cart := s.cartSelect a.toNat v } = _
    have own : s.resolve a.toNat = some .cartridge := owner.mpr ⟨hb, by
      rw [hc]; exact (c.contains_iff _).mpr ⟨hk, .inl ha⟩⟩
    rw [State.cartSelect, own, hc]
    rfl

theorem ofNat5_low (n : Nat) : (if BitVec.ofNat 5 n = 0 then 1 else BitVec.ofNat 5 n) =
    BitVec.ofNat 5 (if n % 32 = 0 then 1 else n % 32) := by
  have zero : BitVec.ofNat 5 n = 0 ↔ n % 32 = 0 :=
    ⟨fun e => congrArg BitVec.toNat e, fun e => BitVec.eq_of_toNat_eq e⟩
  by_cases h : n % 32 = 0
  · rw [if_pos (zero.mpr h), if_pos h]; rfl
  · rw [if_neg fun e => h (zero.mp e), if_neg h]
    exact BitVec.eq_of_toNat_eq (Nat.mod_mod _ _).symm

theorem ofNat2_mod (n : Nat) : BitVec.ofNat 2 n = BitVec.ofNat 2 (n % 4) :=
  BitVec.eq_of_toNat_eq (Nat.mod_mod _ _).symm

theorem lowNibble_eq (v : Byte) : v.toNat % 16 = 0x0A ↔ v &&& 0x0F = 0x0A := by
  have mask : (v &&& 0x0F).toNat = v.toNat % 16 := by
    rw [BitVec.toNat_and]
    exact Nat.and_two_pow_sub_one_eq_mod _ 4
  rw [← mask]
  exact ⟨fun e => BitVec.eq_of_toNat_eq e, fun e => congrArg BitVec.toNat e⟩

theorem Cartridge.select_ramEnable (hk : c.kind = .mbc1) {n : Nat} (h : n ≤ 0x1FFF) (v : Byte) :
    c.select n v = { c with ramEnable := decide (v &&& 0x0F = 0x0A) } := by
  unfold Cartridge.select
  rw [hk]
  dsimp only
  rw [if_pos h, decide_eq_decide.mpr (lowNibble_eq v)]

theorem Cartridge.select_romLow (hk : c.kind = .mbc1) {n : Nat} (h1 : 0x2000 ≤ n) (h2 : n ≤ 0x3FFF) (v : Byte) :
    c.select n v = { c with romLow := BitVec.ofNat 5 (if v.toNat % 32 = 0 then 1 else v.toNat % 32) } := by
  unfold Cartridge.select
  rw [hk]
  dsimp only
  rw [if_neg (by omega), if_pos h2, ofNat5_low]

theorem Cartridge.select_upper (hk : c.kind = .mbc1) {n : Nat} (h1 : 0x4000 ≤ n) (h2 : n ≤ 0x5FFF) (v : Byte) :
    c.select n v = if c.mode = true then { c with ramBank := BitVec.ofNat 2 (v.toNat % 4) }
      else { c with hi2 := BitVec.ofNat 2 (v.toNat % 4) } := by
  unfold Cartridge.select
  rw [hk]
  dsimp only
  rw [if_neg (by omega), if_neg (by omega), if_pos h2, ofNat2_mod]

theorem Cartridge.select_mode (hk : c.kind = .mbc1) {n : Nat} (h1 : 0x6000 ≤ n) (h2 : n ≤ 0x7FFF) (v : Byte) :
    c.select n v = { c with mode := decide (v.toNat % 2 = 1) } := by
  unfold Cartridge.select
  rw [hk]
  dsimp only
  rw [if_neg (by omega), if_neg (by omega), if_neg (by omega), if_pos h2, BitVec.getLsbD, Nat.testBit_zero]

/-- What the ROM range shows of an MBC1 where the BIOS does not lie over it (R87, R92). -/
theorem State.read_rom (hc : s.cart = some c) (hk : c.kind = .mbc1) (hb : ¬ (s.biosMapped = true ∧ a.toNat ≤ 0xFF))
    (ha : a.toNat ≤ 0x7FFF) : s.read a = Memory.read c.rom (c.romOffset a.toNat) := by
  rw [State.read, State.place_cart hc (by simp [hk]) hb (.inl ha), c.place_rom ha, State.placeRead, hc]

/-- The switchable window of an MBC1 shows the bank of its registers. -/
theorem State.read_window (hc : s.cart = some c) (hk : c.kind = .mbc1) (hr : c.romLow ≠ 0) {k : Nat} (h : k < 0x4000) :
    s.read (BitVec.ofNat 16 (0x4000 + k)) = Memory.read c.rom
      ((if c.hi2.toNat * 32 + c.romLow.toNat < c.romLength / 0x4000 then c.hi2.toNat * 32 + c.romLow.toNat
        else (c.hi2.toNat * 32 + c.romLow.toNat) % (c.romLength / 0x4000)) * 0x4000 + k) := by
  have window : (BitVec.ofNat 16 (0x4000 + k)).toNat = 0x4000 + k := Nat.mod_eq_of_lt (by omega)
  rw [State.read_rom hc hk (by omega) (by omega), window, Cartridge.romOffset_bank hk hr (by omega),
    Nat.add_sub_cancel_left]

/-- Settles O38: the store moves one register, and the windows follow the registers. -/
theorem cartridgeRegisters : Obligations.CartridgeRegisters := by
  unfold Obligations.CartridgeRegisters
  refine ⟨fun s a v c hc ha => ⟨fun hb hlow => ?_, fun hk => ?_, fun hk hb => ?_⟩, fun s c v k hc hk hlt => ?_⟩
  · by_cases hk : c.kind = .inert
    · rw [State.written_eq_placeWrite (notMem_watched (by omega))
        (.inr fun d hd => by cases hc.symm.trans hd; simp [hk]), State.place_bios hb hlow]
      rfl
    · rw [State.written_rom hc hk ha, if_pos ⟨hb, hlow⟩]
  · rw [State.written_rom hc (by simp [hk]) ha, Cartridge.select_of_ne_mbc1 (by simp [hk]), ← hc, ite_self]
  · have written : s.written a v = { s with cart := some (c.select a.toNat v) } := by
      rw [State.written_rom hc (by simp [hk]) ha, if_neg hb]
    refine ⟨fun h => ?_, fun h1 h2 => ?_, fun h1 h2 hm => ?_, fun h1 h2 hm => ?_, fun h => ?_⟩ <;> rw [written]
    · rw [Cartridge.select_ramEnable hk h]
    · rw [Cartridge.select_romLow hk h1 h2]
    · rw [Cartridge.select_upper hk h1 h2, if_neg (by simp [hm])]
    · rw [Cartridge.select_upper hk h1 h2, if_pos hm]
    · rw [Cartridge.select_mode hk h ha]
  · have cart : (s.written 0x2000 v).cart =
        some { c with romLow := BitVec.ofNat 5 (if v.toNat % 32 = 0 then 1 else v.toNat % 32) } := by
      rw [State.written_rom hc (by simp [hk]) (by decide), if_neg (by simp),
        Cartridge.select_romLow hk (by decide) (by decide)]
    have bank : (BitVec.ofNat 5 (if v.toNat % 32 = 0 then 1 else v.toNat % 32)).toNat =
        if v.toNat % 32 = 0 then 1 else v.toNat % 32 := Nat.mod_eq_of_lt (by split <;> omega)
    have nonzero : BitVec.ofNat 5 (if v.toNat % 32 = 0 then 1 else v.toNat % 32) ≠ 0 := fun e => by
      rw [e] at bank
      simp only [BitVec.ofNat_eq_ofNat, BitVec.toNat_ofNat] at bank
      split at bank <;> omega
    have lower : (BitVec.ofNat 16 k).toNat = k := Nat.mod_eq_of_lt (by omega)
    refine ⟨?_, fun hk' => ?_⟩
    · have shown := State.read_window cart hk nonzero hlt
      rw [bank] at shown
      exact shown
    · rw [State.read_rom cart hk (by omega) (by omega), lower, Cartridge.romOffset_low _ (.inr (by omega))]

end Sys2Proof.Machine
end

section
/-! SUPPORT. The registers of the MMU's subscribers and of the PPU, byte by byte: what `STAT`, `IF` and `LY` read after
each of their own writes (R353, R354, R362), and the published stores into them (R340, R362 to R368, R97). -/

namespace Sys2Proof.Machine

variable {s t u : State} {a b : Word} {v : Byte}

/-! ### Reads beside a change of some registers -/

/-- The two states show the same memories but for `mem`. -/
structure State.SameBus (s t : State) : Prop where
  bios : t.bios = s.bios
  mapped : t.biosMapped = s.biosMapped
  cart : t.cart = s.cart
  sound : t.sound = s.sound

/-- Bytes above work RAM show at their own addresses alone. -/
theorem State.SameBus.read (h : s.SameBus t) {ks : List Word} (high : ∀ a ∈ ks, 0xD000 ≤ a.toNat)
    (bytes : ∀ k, (∀ a ∈ ks, k ≠ a.toNat) → Memory.read t.mem k = Memory.read s.mem k) (hb : b ∉ ks) :
    t.read b = s.read b := by
  refine State.read_congr h.bios h.mapped h.cart h.sound fun k own => bytes k fun a ha e => ?_
  have same : b = a := BitVec.eq_of_toNat_eq ((own (e ▸ high a ha)).symm.trans e)
  exact hb (same ▸ ha)

theorem State.OnlyRegisters.sameBus (h : s.OnlyRegisters t) : s.SameBus t :=
  ⟨h.bios, h.biosMapped, h.cart, h.sound⟩

theorem State.OnlyRegisters.read (h : s.OnlyRegisters t) (h1 : b ≠ 0xFF0F) (h2 : b ≠ 0xFF41) (h3 : b ≠ 0xFF44) :
    t.read b = s.read b := by
  refine h.sameBus.read (ks := [0xFF0F, 0xFF41, 0xFF44]) (by simp) (fun k hk => ?_) ?_
  · exact h.bytes k (hk 0xFF0F (by simp)) (hk 0xFF41 (by simp)) (hk 0xFF44 (by simp))
  · simp only [List.mem_cons, List.not_mem_nil, or_false, not_or]
    exact ⟨h1, h2, h3⟩

/-! ### The bits of `STAT` and `IF` -/

theorem bit8_getLsbD (c : Bool) (k : Nat) : (bit8 c).getLsbD k = (decide (k = 0) && c) := by
  cases c <;> cases k <;> simp [bit8]

/-- The coincidence's bit put into a byte (R362). -/
theorem getLsbD_coincidence (x : Byte) (c : Bool) (k : Nat) :
    ((x &&& 0xFB) ||| (bit8 c <<< 2)).getLsbD k = if k = 2 then c else x.getLsbD k := by
  by_cases h : k < 8
  · simp only [BitVec.getLsbD_or, BitVec.getLsbD_and, BitVec.getLsbD_shiftLeft, bit8_getLsbD]
    interval_cases k <;> cases c <;> simp
  · rw [BitVec.getLsbD_of_ge _ _ (by omega), if_neg (by omega), BitVec.getLsbD_of_ge _ _ (by omega)]

/-- The LCD-STAT bit requested under a condition (R354). -/
theorem getLsbD_requested (x : Byte) (c : Prop) [Decidable c] (k : Nat) :
    (if c then x ||| 0x02 else x).getLsbD k = (x.getLsbD k || (decide (k = 1) && decide c)) := by
  have mask : (0x02 : Byte).getLsbD k = decide (k = 1) := by
    by_cases h : k < 8
    · interval_cases k <;> rfl
    · rw [BitVec.getLsbD_of_ge _ _ (by omega), eq_comm, decide_eq_false_iff_not]
      omega
  by_cases h : c
  · rw [if_pos h, BitVec.getLsbD_or, mask, decide_eq_true h, Bool.and_true]
  · rw [if_neg h, decide_eq_false h, Bool.and_false, Bool.or_false]

/-- `STAT` with its lower three bits the PPU's (R353, R364). -/
def Ppu.stat (p : Ppu) (x : Byte) : Byte := (x &&& 0xF8) ||| p.statBits

theorem Ppu.statBits_and_F8 (p : Ppu) : p.statBits &&& 0xF8 = 0 := by
  unfold Ppu.statBits
  cases p.coincidence <;> cases p.mode <;> rfl

theorem Ppu.statBits_and_7 (p : Ppu) : p.statBits &&& 0x07 = p.statBits := by
  unfold Ppu.statBits
  cases p.coincidence <;> cases p.mode <;> rfl

/-- Its upper bits are those of the byte, however often the lower ones were set. -/
theorem Ppu.stat_upper (p : Ppu) (x : Byte) : p.stat x &&& 0xF8 = x &&& 0xF8 := by
  rw [Ppu.stat, BitVec.and_or_distrib_right, p.statBits_and_F8, BitVec.and_assoc]
  exact BitVec.or_zero

theorem Ppu.stat_lower (p : Ppu) (x : Byte) : p.stat x &&& 0x07 = p.statBits := by
  rw [Ppu.stat, BitVec.and_or_distrib_right, p.statBits_and_7, BitVec.and_assoc]
  exact (congrArg (· ||| p.statBits) BitVec.and_zero).trans BitVec.zero_or

theorem Ppu.stat_coincidence (p : Ppu) (x : Byte) (c : Bool) :
    (p.stat x &&& 0xFB) ||| (bit8 c <<< 2) = Ppu.stat { p with coincidence := c } x := by
  have lower : (p.statBits &&& 0xFB) ||| (bit8 c <<< 2) = ({ p with coincidence := c } : Ppu).statBits := by
    unfold Ppu.statBits
    dsimp only
    cases p.coincidence <;> cases p.mode <;> cases c <;> rfl
  rw [Ppu.stat, BitVec.and_or_distrib_right, BitVec.or_assoc, lower, BitVec.and_assoc]
  rfl

theorem Ppu.getLsbD_stat_upper (p : Ppu) (x : Byte) {k : Nat} (h : 3 ≤ k) : (p.stat x).getLsbD k = x.getLsbD k := by
  by_cases hk : k < 8
  · have same := congrArg (·.getLsbD k) (p.stat_upper x)
    simp only [BitVec.getLsbD_and] at same
    interval_cases k <;> simpa using same
  · rw [BitVec.getLsbD_of_ge _ _ (by omega), BitVec.getLsbD_of_ge _ _ (by omega)]

theorem Ppu.getLsbD_stat_two (p : Ppu) (x : Byte) : (p.stat x).getLsbD 2 = p.coincidence := by
  have same := congrArg (·.getLsbD 2) (p.stat_lower x)
  have bits : p.statBits.getLsbD 2 = p.coincidence := by
    unfold Ppu.statBits
    cases p.coincidence <;> cases p.mode <;> rfl
  simp only [BitVec.getLsbD_and, bits] at same
  simpa using same

theorem Ppu.stat_mode (p : Ppu) (x : Byte) : (p.stat x).toNat % 4 = p.mode.toBits.toNat := by
  have lower : p.stat x &&& 0x03 = p.mode.toBits := by
    calc p.stat x &&& 0x03 = (p.stat x &&& 0x07) &&& 0x03 := by rw [BitVec.and_assoc]; rfl
      _ = p.statBits &&& 0x03 := by rw [p.stat_lower]
      _ = p.mode.toBits := by
        unfold Ppu.statBits
        cases p.coincidence <;> cases p.mode <;> rfl
  rw [← lower, BitVec.toNat_and]
  exact (Nat.and_two_pow_sub_one_eq_mod _ 2).symm

/-! ### The registers after the PPU's own writes -/

theorem State.read_request (h : Memory.wf s.mem = true) (m : Byte) (k : Nat) :
    Memory.read (s.request m).mem k = if k = 0xFF0F then Memory.read s.mem 0xFF0F ||| m else Memory.read s.mem k := by
  rw [State.request_eq]
  exact Memory.read_write _ (Memory.rising_of_wf h)

theorem State.read_setMode (h : Memory.wf s.mem = true) (m : PpuMode) (k : Nat) :
    Memory.read (s.setMode m).mem k =
      if k = 0xFF41 then Ppu.stat { s.ppu with mode := m } (Memory.read s.mem 0xFF41) else Memory.read s.mem k := by
  rw [State.setMode_eq]
  exact Memory.read_write _ (Memory.rising_of_wf h)

theorem State.read_statRequestIf (h : Memory.wf s.mem = true) (b k : Nat) :
    Memory.read (s.statRequestIf b).mem k =
      if k = 0xFF0F ∧ (Memory.read s.mem 0xFF41).getLsbD b = true then Memory.read s.mem 0xFF0F ||| 0x02
      else Memory.read s.mem k := by
  rw [State.statRequestIf_eq]
  dsimp only
  by_cases hb : (Memory.read s.mem 0xFF41).getLsbD b = true
  · rw [if_pos hb, Memory.read_write _ (Memory.rising_of_wf h)]
    exact if_congr ⟨fun e => ⟨e, hb⟩, And.left⟩ rfl rfl
  · rw [if_neg hb, if_neg fun e => hb e.2]

theorem State.setMode_ppu (s : State) (m : PpuMode) : (s.setMode m).ppu = { s.ppu with mode := m } := by
  rw [State.setMode_eq]

theorem State.request_ppu (s : State) (m : Byte) : (s.request m).ppu = s.ppu := by
  rw [State.request_eq]

theorem State.statRequestIf_ppu (s : State) (b : Nat) : (s.statRequestIf b).ppu = s.ppu := by
  rw [State.statRequestIf_eq]

/-- The first half of the coincidence's update (R362): the flag, in the PPU and in `STAT`. -/
def State.coincidenceFlag (s : State) : State :=
  { s with
    mem := Memory.write s.mem 0xFF41 ((Memory.read s.mem 0xFF41 &&& 0xFB) |||
      (bit8 (decide (s.ppu.ly = Memory.read s.mem 0xFF45)) <<< 2))
    ppu := { s.ppu with coincidence := decide (s.ppu.ly = Memory.read s.mem 0xFF45) } }

theorem State.coincidenceUpdate_eq_flag (s : State) : s.coincidenceUpdate =
    if s.ppu.ly = Memory.read s.mem 0xFF45 then s.coincidenceFlag.statRequestIf 6 else s.coincidenceFlag :=
  s.coincidenceUpdate_eq

theorem State.read_coincidenceFlag (h : Memory.wf s.mem = true) (k : Nat) : Memory.read s.coincidenceFlag.mem k =
    if k = 0xFF41 then (Memory.read s.mem 0xFF41 &&& 0xFB) |||
      (bit8 (decide (s.ppu.ly = Memory.read s.mem 0xFF45)) <<< 2) else Memory.read s.mem k :=
  Memory.read_write _ (Memory.rising_of_wf h)

theorem State.coincidenceUpdate_ppu (s : State) : s.coincidenceUpdate.ppu =
    { s.ppu with coincidence := decide (s.ppu.ly = Memory.read s.mem 0xFF45) } := by
  rw [State.coincidenceUpdate_eq_flag]
  split
  · rw [State.statRequestIf_ppu]; rfl
  · rfl

theorem State.read_coincidenceUpdate (h : Memory.wf s.mem = true) (k : Nat) : Memory.read s.coincidenceUpdate.mem k =
    if k = 0xFF41 then (Memory.read s.mem 0xFF41 &&& 0xFB) |||
      (bit8 (decide (s.ppu.ly = Memory.read s.mem 0xFF45)) <<< 2)
    else if k = 0xFF0F ∧ s.ppu.ly = Memory.read s.mem 0xFF45 ∧ (Memory.read s.mem 0xFF41).getLsbD 6 = true
      then Memory.read s.mem 0xFF0F ||| 0x02
    else Memory.read s.mem k := by
  have h' : Memory.wf s.coincidenceFlag.mem = true := Memory.wf_write _ _ h
  have six : (Memory.read s.coincidenceFlag.mem 0xFF41).getLsbD 6 = (Memory.read s.mem 0xFF41).getLsbD 6 := by
    rw [State.read_coincidenceFlag h, if_pos rfl, getLsbD_coincidence, if_neg (by decide)]
  rw [State.coincidenceUpdate_eq_flag]
  by_cases hco : s.ppu.ly = Memory.read s.mem 0xFF45
  · rw [if_pos hco, State.read_statRequestIf h', six, State.read_coincidenceFlag h 0xFF0F,
      State.read_coincidenceFlag h k, if_neg (by decide : ¬ (0xFF0F = 0xFF41))]
    by_cases hk : k = 0xFF41
    · rw [if_neg (by omega), if_pos hk, if_pos hk]
    · rw [if_neg hk, if_neg hk]
      exact if_congr ⟨fun e => ⟨e.1, hco, e.2⟩, fun e => ⟨e.1, e.2.2⟩⟩ rfl rfl
  · rw [if_neg hco, State.read_coincidenceFlag h, if_neg (c := k = 0xFF0F ∧ _) fun e => hco e.2.1]

/-- `ly` and `LY` before the coincidence's update (R362). -/
def State.lySet (s : State) (v : Byte) : State :=
  { s with mem := Memory.write s.mem 0xFF44 v, ppu := { s.ppu with ly := v } }

theorem State.setLy_eq (s : State) (v : Byte) : s.setLy v = (s.lySet v).coincidenceUpdate := by
  rw [State.setLy, State.lySet]
  exact congrArg State.coincidenceUpdate (State.quiet_FF44 _ v)

theorem State.setLy_ppu (s : State) (v : Byte) : (s.setLy v).ppu =
    { s.ppu with ly := v, coincidence := decide (v = Memory.read s.mem 0xFF45) } := by
  rw [State.setLy_eq, State.coincidenceUpdate_ppu, State.lySet]
  dsimp only
  rw [Memory.read_write_other _ _ (by decide)]

theorem State.read_setLy (h : Memory.wf s.mem = true) (v : Byte) (k : Nat) : Memory.read (s.setLy v).mem k =
    if k = 0xFF44 then v
    else if k = 0xFF41 then (Memory.read s.mem 0xFF41 &&& 0xFB) |||
      (bit8 (decide (v = Memory.read s.mem 0xFF45)) <<< 2)
    else if k = 0xFF0F ∧ v = Memory.read s.mem 0xFF45 ∧ (Memory.read s.mem 0xFF41).getLsbD 6 = true
      then Memory.read s.mem 0xFF0F ||| 0x02
    else Memory.read s.mem k := by
  have other {j : Nat} (hj : j ≠ 0xFF44) : Memory.read (s.lySet v).mem j = Memory.read s.mem j :=
    Memory.read_write_other _ _ hj
  rw [State.setLy_eq, State.read_coincidenceUpdate (Memory.wf_write _ _ h), other (j := 0xFF41) (by decide),
    other (j := 0xFF45) (by decide), other (j := 0xFF0F) (by decide)]
  by_cases hk : k = 0xFF44
  · rw [if_neg (by omega), if_neg (by omega), if_pos hk, hk]
    exact Memory.read_write_same _ (Memory.rising_of_wf h)
  · rw [if_neg hk, other hk]
    rfl

theorem State.if_setLy (h : Memory.wf s.mem = true) (v : Byte) : Memory.read (s.setLy v).mem 0xFF0F =
    if v = Memory.read s.mem 0xFF45 ∧ (Memory.read s.mem 0xFF41).getLsbD 6 = true
      then Memory.read s.mem 0xFF0F ||| 0x02 else Memory.read s.mem 0xFF0F := by
  rw [State.read_setLy h, if_neg (by decide), if_neg (by decide)]
  exact if_congr ⟨And.right, fun e => ⟨rfl, e⟩⟩ rfl rfl

theorem State.read_setMode_other (s : State) (m : PpuMode) {k : Nat} (hk : k ≠ 0xFF41) :
    Memory.read (s.setMode m).mem k = Memory.read s.mem k := by
  rw [State.setMode_eq]
  exact Memory.read_write_other _ _ hk

/-! ### `STAT` in step with the PPU -/

theorem State.stat_setMode (h : Memory.wf s.mem = true) (m : PpuMode) :
    Memory.read (s.setMode m).mem 0xFF41 = (s.setMode m).ppu.stat (Memory.read s.mem 0xFF41) := by
  rw [State.read_setMode h, if_pos rfl, State.setMode_ppu]

/-- Where `STAT` shows the PPU's mode and coincidence, it does after a change of the line. -/
theorem State.stat_setLy (h : Memory.wf s.mem = true) {x : Byte} (hx : Memory.read s.mem 0xFF41 = s.ppu.stat x)
    (v : Byte) : Memory.read (s.setLy v).mem 0xFF41 = (s.setLy v).ppu.stat x := by
  rw [State.read_setLy h, if_neg (by decide), if_pos rfl, hx, Ppu.stat_coincidence, State.setLy_ppu]
  rfl

/-! ### Stores at registers -/

/-- The state with one byte of `mem` set. -/
def State.stored (s : State) (k : Nat) (v : Byte) : State := { s with mem := Memory.write s.mem k v }

theorem State.read_stored (h : Memory.wf s.mem = true) (j : Nat) (v : Byte) (k : Nat) :
    Memory.read (s.stored j v).mem k = if k = j then v else Memory.read s.mem k :=
  Memory.read_write _ (Memory.rising_of_wf h)

theorem State.stored_wf (h : Memory.wf s.mem = true) (k : Nat) (v : Byte) : Memory.wf (s.stored k v).mem = true :=
  Memory.wf_write _ _ h

theorem State.stored_sameBus (s : State) (k : Nat) (v : Byte) : s.SameBus (s.stored k v) := ⟨rfl, rfl, rfl, rfl⟩

theorem State.stored_ppu (s : State) (k : Nat) (v : Byte) : (s.stored k v).ppu = s.ppu := rfl

theorem State.OnlyRegisters.mem_ppu (h : s.OnlyRegisters t) : t = { s with mem := t.mem, ppu := t.ppu } := by
  rw [h.rest]

/-- A quiet store at a register, by the register's number. -/
theorem State.quiet_at (s : State) (k : Nat) {a : Word} (e : a.toNat = k) (h : 0xFE00 ≤ k) (hs : isSound k = false)
    (v : Byte) : s.quiet a v = s.stored k v := by
  subst e
  exact s.quiet_register v h hs

theorem State.read_at (s : State) (k : Nat) {a : Word} (e : a.toNat = k) (h : 0xFE00 ≤ k) (hs : isSound k = false) :
    s.read a = Memory.read s.mem k := by
  subst e
  exact s.read_register h hs

/-- Reads beside a change of one register's byte. -/
theorem State.SameBus.read_other (h : s.SameBus t) {k : Nat} {a : Word} (e : a.toNat = k) (high : 0xD000 ≤ k)
    (bytes : ∀ j, j ≠ k → Memory.read t.mem j = Memory.read s.mem j) (hb : b ≠ a) : t.read b = s.read b := by
  subst e
  exact h.read (ks := [a]) (by simpa using high) (fun k hk => bytes k (hk a (by simp))) (by simpa using hb)

/-- A byte set twice shows its second value, and every other byte the old one. -/
theorem State.read_stored_twice (h : Memory.wf s.mem = true) (j : Nat) (v w : Byte) (k : Nat) :
    Memory.read ((s.stored j v).stored j w).mem k = if k = j then w else Memory.read s.mem k := by
  rw [State.read_stored (State.stored_wf h _ _), State.read_stored h]
  by_cases hk : k = j
  · rw [if_pos hk, if_pos hk]
  · rw [if_neg hk, if_neg hk, if_neg hk]

/-! ### `DIV` and `STAT` -/

/-- `divAcc` cleared (R340). -/
def State.divAccCleared (s : State) : State := { s with timer := { s.timer with divAcc := 0 } }

theorem State.written_FF04 (s : State) (v : Byte) :
    s.written 0xFF04 v = ((s.stored 0xFF04 v).stored 0xFF04 0).divAccCleared := by
  have calls (u : State) : u.subscribers 0xFF04 v = u.resetDivider := by simp [State.subscribers]
  rw [State.written, calls, s.quiet_at 0xFF04 rfl (by decide) (by decide), State.resetDivider,
    State.quiet_at _ 0xFF04 rfl (by decide) (by decide)]
  rfl

theorem State.written_FF41 (s : State) (v : Byte) :
    s.written 0xFF41 v = (s.stored 0xFF41 v).stored 0xFF41 (s.ppu.stat v) := by
  have calls (u : State) : u.subscribers 0xFF41 v = u.statWrite v := by simp [State.subscribers]
  rw [State.written, calls, s.quiet_at 0xFF41 rfl (by decide) (by decide), State.statWrite,
    State.quiet_at _ 0xFF41 rfl (by decide) (by decide)]
  rfl

/-- Settles O40: after the store the subscriber sets the same byte again. -/
theorem dividerAndStatWrites : Obligations.DividerAndStatWrites := by
  unfold Obligations.DividerAndStatWrites
  intro s v m
  refine ⟨?_, ?_⟩
  · have bytes := State.read_stored_twice m.mem 0xFF04 v 0
    rw [s.written_FF04 v]
    refine ⟨(State.read_at _ 0xFF04 rfl (by decide) (by decide)).trans ((bytes _).trans (if_pos rfl)),
      fun b hb => State.SameBus.read_other ⟨rfl, rfl, rfl, rfl⟩ rfl (by decide) (fun k hk => ?_) hb, rfl⟩
    exact (bytes k).trans (if_neg hk)
  · have bytes := State.read_stored_twice m.mem 0xFF41 v (s.ppu.stat v)
    rw [s.written_FF41 v]
    intro t
    have stat : t.read 0xFF41 = s.ppu.stat v :=
      (State.read_at _ 0xFF41 rfl (by decide) (by decide)).trans ((bytes _).trans (if_pos rfl))
    rw [stat]
    refine ⟨fun k hk => s.ppu.getLsbD_stat_upper v hk, s.ppu.getLsbD_stat_two v, s.ppu.stat_mode v,
      fun b hb => State.SameBus.read_other ⟨rfl, rfl, rfl, rfl⟩ rfl (by decide) (fun k hk => ?_) hb, rfl⟩
    exact (bytes k).trans (if_neg hk)

/-! ### `LYC` and `LCDC` -/

theorem State.written_FF45 (s : State) (v : Byte) : s.written 0xFF45 v = (s.stored 0xFF45 v).coincidenceUpdate := by
  have calls (u : State) : u.subscribers 0xFF45 v = u.coincidenceUpdate := by simp [State.subscribers]
  rw [State.written, calls, s.quiet_at 0xFF45 rfl (by decide) (by decide)]

theorem State.written_FF40 (s : State) (v : Byte) : s.written 0xFF40 v = (s.stored 0xFF40 v).lcdControl v := by
  have calls (u : State) : u.subscribers 0xFF40 v = u.lcdControl v := by simp [State.subscribers]
  rw [State.written, calls, s.quiet_at 0xFF40 rfl (by decide) (by decide)]

theorem State.read_stored_other (h : Memory.wf s.mem = true) {a : Word} {k : Nat} (e : a.toNat = k) (high : 0xD000 ≤ k)
    (v : Byte) (hb : b ≠ a) : (s.stored k v).read b = s.read b :=
  (s.stored_sameBus _ v).read_other e high (fun j hj => (State.read_stored h _ v j).trans (if_neg hj)) hb

theorem State.OnlyRegisters.read_no_ly (h : s.OnlyRegisters t)
    (ly : Memory.read t.mem 0xFF44 = Memory.read s.mem 0xFF44) (h1 : b ≠ 0xFF0F) (h2 : b ≠ 0xFF41) :
    t.read b = s.read b := by
  by_cases h3 : b = 0xFF44
  · rw [h3, t.read_at 0xFF44 rfl (by decide) (by decide), s.read_at 0xFF44 rfl (by decide) (by decide), ly]
  · exact h.read h1 h2 h3

/-- Settles O41: the store, then the coincidence's update. -/
theorem lycWrite : Obligations.LycWrite := by
  unfold Obligations.LycWrite
  intro s v m
  rw [s.written_FF45 v]
  have only := (s.stored 0xFF45 v).onlyRegisters_coincidenceUpdate
  have byte := State.read_stored m.mem 0xFF45 v
  have lyc : Memory.read (s.stored 0xFF45 v).mem 0xFF45 = v := (byte _).trans (if_pos rfl)
  have stat : Memory.read (s.stored 0xFF45 v).mem 0xFF41 = Memory.read s.mem 0xFF41 := (byte _).trans (if_neg (by decide))
  have flags : Memory.read (s.stored 0xFF45 v).mem 0xFF0F = Memory.read s.mem 0xFF0F := (byte _).trans (if_neg (by decide))
  have update := State.read_coincidenceUpdate (State.stored_wf m.mem 0xFF45 v)
  rw [lyc, stat, flags, State.stored_ppu] at update
  intro t
  have stat' (u : State) : u.read 0xFF41 = Memory.read u.mem 0xFF41 := u.read_FF41
  have flags' (u : State) : u.read 0xFF0F = Memory.read u.mem 0xFF0F := u.read_FF0F
  have lyc' (u : State) : u.read 0xFF45 = Memory.read u.mem 0xFF45 := u.read_FF45
  simp only [stat', flags', lyc']
  refine ⟨?_, ?_, fun k => ?_, fun k => ?_, fun b h1 h2 h3 => ?_, only.mem_ppu⟩
  · exact (only.bytes _ (by decide) (by decide) (by decide)).trans lyc
  · refine (State.coincidenceUpdate_ppu _).trans ?_
    rw [lyc]
    rfl
  · rw [(update 0xFF41).trans (if_pos rfl), getLsbD_coincidence]
  · rw [(update 0xFF0F).trans (if_neg (by decide)), flags, getLsbD_requested]
    simp [Bool.and_assoc]
  · refine (only.read_no_ly ?_ h3 h2).trans (State.read_stored_other m.mem rfl (by decide) v h1)
    rw [update, if_neg (by decide), if_neg (by simp)]

/-- The PPU at rest, before its mode and line are shown (R365). -/
def State.lcdResting (s : State) : State :=
  { s with ppu := { s.ppu with lcdOn := false, credit := 0, nextStep := .oamScan, ly := 0 } }

/-- The PPU switched off (R365). -/
def State.lcdOff (s : State) : State := (s.lcdResting.setMode .hBlank).setLy 0

theorem State.lcdOff_ppu (h : Memory.wf s.mem = true) : s.lcdOff.ppu =
    { s.ppu with lcdOn := false, credit := 0, nextStep := .oamScan, ly := 0, mode := .hBlank,
                 coincidence := decide (Memory.read s.mem 0xFF45 = 0) } := by
  rw [State.lcdOff, State.setLy_ppu, State.read_setMode (s := s.lcdResting) h, if_neg (by decide), State.setMode_ppu,
    State.lcdResting]
  simp only [eq_comm]

theorem State.lcdOff_onlyRegisters (s : State) : s.lcdResting.OnlyRegisters s.lcdOff :=
  (s.lcdResting.onlyRegisters_setMode _).trans (State.onlyRegisters_setLy _ _)

theorem State.stat_lcdOff (h : Memory.wf s.mem = true) :
    Memory.read s.lcdOff.mem 0xFF41 = s.lcdOff.ppu.stat (Memory.read s.mem 0xFF41) :=
  State.stat_setLy ((s.lcdResting.onlyRegisters_setMode _).wf h) (State.stat_setMode (s := s.lcdResting) h _) 0

theorem State.ly_lcdOff (h : Memory.wf s.mem = true) : Memory.read s.lcdOff.mem 0xFF44 = 0 :=
  (State.read_setLy ((s.lcdResting.onlyRegisters_setMode _).wf h) 0 _).trans (if_pos rfl)

theorem State.if_lcdOff (h : Memory.wf s.mem = true) : Memory.read s.lcdOff.mem 0xFF0F =
    if Memory.read s.mem 0xFF45 = 0 ∧ (Memory.read s.mem 0xFF41).getLsbD 6 = true
      then Memory.read s.mem 0xFF0F ||| 0x02 else Memory.read s.mem 0xFF0F := by
  rw [State.lcdOff, State.if_setLy ((s.lcdResting.onlyRegisters_setMode _).wf h),
    State.read_setMode_other (k := 0xFF45) _ _ (by decide), State.read_setMode_other (k := 0xFF0F) _ _ (by decide),
    State.stat_setMode (s := s.lcdResting) h, Ppu.getLsbD_stat_upper _ _ (by decide)]
  exact if_congr (and_congr_left fun _ => eq_comm) rfl rfl

/-- Settles O42: the store of the byte, then what bit 7 makes of the PPU. -/
theorem lcdEnable : Obligations.LcdEnable := by
  unfold Obligations.LcdEnable
  intro s v m
  have h : Memory.wf (s.stored 0xFF40 v).mem = true := State.stored_wf m.mem _ _
  have byte := State.read_stored m.mem 0xFF40 v
  have lcdc : Memory.read (s.stored 0xFF40 v).mem 0xFF40 = v := (byte _).trans (if_pos rfl)
  have other {k : Nat} (hk : k ≠ 0xFF40) : Memory.read (s.stored 0xFF40 v).mem k = Memory.read s.mem k :=
    (byte k).trans (if_neg hk)
  have lcdc' (u : State) : u.read 0xFF40 = Memory.read u.mem 0xFF40 := u.read_FF40
  have stat' (u : State) : u.read 0xFF41 = Memory.read u.mem 0xFF41 := u.read_FF41
  have flags' (u : State) : u.read 0xFF0F = Memory.read u.mem 0xFF0F := u.read_FF0F
  have lyc' (u : State) : u.read 0xFF45 = Memory.read u.mem 0xFF45 := u.read_FF45
  have ly' (u : State) : u.read 0xFF44 = Memory.read u.mem 0xFF44 := u.read_at 0xFF44 rfl (by decide) (by decide)
  have stored {b : Word} (hb : b ≠ 0xFF40) : (s.stored 0xFF40 v).read b = s.read b :=
    State.read_stored_other m.mem rfl (by decide) v hb
  rw [s.written_FF40 v]
  simp only [lcdc', stat', flags', lyc', ly']
  rcases (s.stored 0xFF40 v).lcdControl_cases v with ⟨hon, hv, e⟩ | ⟨hon, hv, e⟩ | ⟨hv, e⟩
  · change _ = (s.stored 0xFF40 v).lcdOff at e
    have ppu := State.lcdOff_ppu h
    have stat := State.stat_lcdOff h
    have only := (s.stored 0xFF40 v).lcdOff_onlyRegisters
    rw [e]
    rw [other (by decide)] at ppu stat
    refine ⟨?_, ?_, fun _ _ => ⟨ppu, State.ly_lcdOff h, ?_, ?_, fun k hk => ?_, fun k => ?_, fun b h1 h2 h3 h4 => ?_⟩,
      ?_, ?_, only.mem_ppu⟩
    · exact (only.bytes _ (by decide) (by decide) (by decide)).trans lcdc
    · rw [ppu, hv]
    · rw [stat, Ppu.stat_mode, ppu]; rfl
    · rw [stat, Ppu.getLsbD_stat_two, ppu]
    · rw [stat, Ppu.getLsbD_stat_upper _ _ hk]
    · rw [State.if_lcdOff h, other (by decide), other (by decide), other (by decide), getLsbD_requested]
      simp [Bool.and_assoc]
    · exact (only.read h4 h2 h3).trans (stored h1)
    · exact fun off _ => absurd (hon.symm.trans off) (by decide)
    · exact fun same => absurd ((hon.symm.trans same).trans hv) (by decide)
  · rw [e]
    refine ⟨lcdc, hv.symm, fun on _ => absurd (hon.symm.trans on) (by decide), fun _ _ => ⟨rfl, fun b hb => stored hb⟩,
      fun same => absurd ((hon.symm.trans same).trans hv) (by decide), rfl⟩
  · rw [e]
    refine ⟨lcdc, hv, fun on off => absurd ((on.symm.trans hv).trans off) (by decide),
      fun off on => absurd ((off.symm.trans hv).trans on) (by decide), fun _ => ⟨rfl, fun b hb => stored hb⟩, rfl⟩

/-! ### DMA and serial output -/

theorem DmaCopy.nth (v : Byte) (i : Nat) :
    ({ src := word v 0 + BitVec.ofNat 16 i, dst := 0xFE00 + BitVec.ofNat 16 i } : DmaCopy) =
      { src := BitVec.ofNat 16 (v.toNat * 256 + i), dst := BitVec.ofNat 16 (0xFE00 + i) } := by
  rw [word_eq, show (0 : Byte).toNat = 0 from rfl, Nat.add_zero, BitVec.ofNat_add, BitVec.ofNat_add,
    show (0xFE00 : Word) = BitVec.ofNat 16 0xFE00 from rfl]

/-- Settles O43: the store, then the copies or the byte sent. -/
theorem dmaAndSerialWrites : Obligations.DmaAndSerialWrites := by
  unfold Obligations.DmaAndSerialWrites
  intro s v
  refine ⟨⟨(List.range 160).map fun i => { src := word v 0 + BitVec.ofNat 16 i, dst := 0xFE00 + BitVec.ofNat 16 i },
    by simp, fun i hi => ?_, ?_⟩, ?_⟩
  · rw [List.getElem?_map, List.getElem?_range hi]
    exact congrArg some (DmaCopy.nth v i)
  · have calls (u : State) : u.subscribers 0xFF46 v = u.startDma v := by simp [State.subscribers]
    rw [State.written, calls, s.quiet_at 0xFF46 rfl (by decide) (by decide)]
    rfl
  · have calls (u : State) : u.subscribers 0xFF02 v = if v = 0x81 then u.serialOut else u := by
      simp [State.subscribers]
    rw [State.written, calls, s.quiet_at 0xFF02 rfl (by decide) (by decide)]
    by_cases hv : v = 0x81
    · have kept : (s.stored 0xFF02 v).read 0xFF01 = s.read 0xFF01 := by
        rw [State.read_at _ 0xFF01 rfl (by decide) (by decide), s.read_at 0xFF01 rfl (by decide) (by decide)]
        exact Memory.read_write_other _ _ (by decide)
      rw [if_pos hv, if_pos hv, State.serialOut, kept]
      rfl
    · rw [if_neg hv, if_neg hv]
      rfl

end Sys2Proof.Machine
end

section
/-! SUPPORT. The DMA sequencer (R100, R101), the Timer (R340 to R344) and the APU (R371): one turn each, and the order
of the units within a slice (R420 to R422). -/

namespace Sys2Proof.Machine

variable {s t u : State} {a b : Word} {v : Byte}

/-! ### One copy -/

/-- A store into OAM sets its byte and nothing else. -/
theorem State.writeByte_oam (s : State) (h : 0xFE00 ≤ a.toNat) (h' : a.toNat ≤ 0xFE9F) (v : Byte) :
    s.writeByte a v = .next (s.stored a.toNat v) := by
  have sound : isSound a.toNat = false := by
    rw [Bool.eq_false_iff]
    intro e
    have := isSound_iff.mp e
    omega
  refine State.writeByte_next.mpr ⟨s.writeFault_high _ (by omega), ?_⟩
  rw [State.written, State.subscribers_unwatched _ _ (notMem_watched (by omega)), s.quiet_at a.toNat rfl h sound]

/-- Where no memory differs, every byte reads the same. -/
theorem State.SameBus.read_of_mem (h : s.SameBus t) (hm : t.mem = s.mem) (b : Word) : t.read b = s.read b :=
  State.read_congr h.bios h.mapped h.cart h.sound fun k _ => by rw [hm]

/-- `enterPpu` by cases of the LCD (R350). -/
theorem enterPpu_eq (s : State) : enterPpu s = { s with
    ppu := { s.ppu with credit := if s.ppu.lcdOn = true then s.ppu.credit + 228 else 0 }
    clock := { s.clock with phase := if s.ppu.lcdOn = true then Phase.ppu else Phase.apu } } := by
  unfold enterPpu
  by_cases h : s.ppu.lcdOn = true
  · rw [if_pos h, if_pos h, if_pos h]; rfl
  · rw [if_neg h, if_neg h, if_neg h]; rfl

theorem dmaTurn_ends {n : Nat} (h : n = 0 ∨ s.dmaQueue = []) : dmaTurn n s = .next (enterPpu s) := by
  unfold dmaTurn
  split
  · next hq =>
    rcases h with h | h
    · cases h
    · rw [h] at hq; cases hq
  · rfl

theorem dmaTurn_copies {n : Nat} {c : DmaCopy} {rest : List DmaCopy} (h : s.dmaQueue = c :: rest) :
    dmaTurn (n + 1) s = copyByte c (State.setPhase { s with dmaQueue := rest } (.mmu n)) := by
  unfold dmaTurn
  rw [h]

/-- Everything a turn of the DMA sequencer can be. -/
theorem dmaTurn_next {n : Nat} (h : dmaTurn n s = .next t) : t = enterPpu s ∨ ∃ m c rest, n = m + 1 ∧
    s.dmaQueue = c :: rest ∧ copyByte c (State.setPhase { s with dmaQueue := rest } (.mmu m)) = .next t := by
  by_cases ends : n = 0 ∨ s.dmaQueue = []
  · rw [dmaTurn_ends ends] at h
    exact .inl (Host.Outcome.next.inj h).symm
  · obtain ⟨hn, hq⟩ := not_or.mp ends
    obtain ⟨m, rfl⟩ : ∃ m, n = m + 1 := ⟨n - 1, by omega⟩
    obtain ⟨c, rest, hq⟩ := List.exists_cons_of_ne_nil hq
    rw [dmaTurn_copies hq] at h
    exact .inr ⟨m, c, rest, rfl, hq, h⟩

theorem step_mmu {n : Nat} (h : s.clock.phase = .mmu n) : step s = dmaTurn n s := by
  unfold step
  rw [h]

/-- Settles O44: one copy is one store into OAM; otherwise the call ends. -/
theorem dmaCopiesOneByte : Obligations.DmaCopiesOneByte := by
  unfold Obligations.DmaCopiesOneByte
  intro s n hp
  refine ⟨fun c rest hn hq hlow hhigh => ?_, fun h => ?_⟩
  · obtain ⟨m, rfl⟩ : ∃ m, n = m + 1 := ⟨n - 1, by omega⟩
    have src : (State.setPhase { s with dmaQueue := rest } (.mmu m)).read c.src = s.read c.src :=
      State.SameBus.read_of_mem (s := s) ⟨rfl, rfl, rfl, rfl⟩ rfl _
    rw [step_mmu hp, dmaTurn_copies hq, copyByte, src, State.writeByte_oam _ hlow hhigh]
    rfl
  · rw [step_mmu hp, dmaTurn_ends h, enterPpu_eq]

/-! ### One timer unit -/

theorem threshold_eq (tac : Byte) : threshold tac =
    if tac.toNat % 4 = 0 then 64 else if tac.toNat % 4 = 1 then 1 else if tac.toNat % 4 = 2 then 4 else 16 := by
  unfold threshold
  have := Nat.mod_lt tac.toNat (show 0 < 4 by decide)
  split
  · next h => rw [h]; rfl
  · next h => rw [h]; rfl
  · next h => rw [h]; rfl
  · next h0 h1 h2 => rw [if_neg h0, if_neg h1, if_neg h2]

/-- Bit 2 of `TAC` as arithmetic (R341). -/
theorem getLsbD_two (x : Byte) : x.getLsbD 2 = decide (x.toNat / 4 % 2 = 1) := by
  rw [BitVec.getLsbD, Nat.testBit_eq_decide_div_mod_eq]

theorem toNat_succ {x : Byte} (h : x.toNat < 255) : (x + 1).toNat = x.toNat + 1 := by
  rw [BitVec.toNat_add]
  exact Nat.mod_eq_of_lt (Nat.succ_lt_succ h)

theorem add_one_eq (x : Byte) : x + 1 = BitVec.ofNat 8 (x.toNat + 1) := by
  apply BitVec.eq_of_toNat_eq
  rw [BitVec.toNat_add]
  rfl

/-- The divider's part (R341, R342). -/
theorem divUnit_eq (s : State) : divUnit s = { s with
    mem := if 16 ≤ s.timer.divAcc + 1 then Memory.write s.mem 0xFF04 (Memory.read s.mem 0xFF04 + 1) else s.mem
    timer := { s.timer with divAcc := if 16 ≤ s.timer.divAcc + 1 then 0 else s.timer.divAcc + 1 } } := by
  unfold divUnit
  by_cases h : 16 ≤ s.timer.divAcc + 1
  · rw [if_pos h, if_pos h, if_pos h, State.quiet_at _ 0xFF04 rfl (by decide) (by decide),
      s.read_at 0xFF04 rfl (by decide) (by decide)]
    rfl
  · rw [if_neg h, if_neg h, if_neg h]

theorem read_divUnit (h : Memory.wf s.mem = true) (k : Nat) : Memory.read (divUnit s).mem k =
    if k = 0xFF04 ∧ 16 ≤ s.timer.divAcc + 1 then Memory.read s.mem 0xFF04 + 1 else Memory.read s.mem k := by
  rw [divUnit_eq]
  dsimp only
  by_cases ht : 16 ≤ s.timer.divAcc + 1
  · rw [if_pos ht, Memory.read_write _ (Memory.rising_of_wf h)]
    exact if_congr ⟨fun e => ⟨e, ht⟩, And.left⟩ rfl rfl
  · rw [if_neg ht, if_neg fun e => ht e.2]

theorem divUnit_wf (h : Memory.wf s.mem = true) : Memory.wf (divUnit s).mem = true := by
  rw [divUnit_eq]
  dsimp only
  split
  · exact Memory.wf_write _ _ h
  · exact h

/-- `t` is `s` but for `mem` and the Timer. -/
def State.OnlyTimer (s t : State) : Prop := t = { s with mem := t.mem, timer := t.timer }

theorem State.OnlyTimer.trans (h : s.OnlyTimer t) (k : t.OnlyTimer u) : s.OnlyTimer u := by
  unfold State.OnlyTimer at *
  rw [k, h]

theorem divUnit_onlyTimer (s : State) : s.OnlyTimer (divUnit s) := by
  unfold State.OnlyTimer
  rw [divUnit_eq]

theorem State.onlyTimer_stored (s : State) (k : Nat) (v : Byte) : s.OnlyTimer (s.stored k v) := rfl

theorem State.request_eq_stored (s : State) (m : Byte) :
    s.request m = s.stored 0xFF0F (Memory.read s.mem 0xFF0F ||| m) := s.request_eq m

theorem timaTick_eq (s : State) : timaTick s =
    if Memory.read s.mem 0xFF05 = 0xFF then (s.stored 0xFF05 (Memory.read s.mem 0xFF06)).request 0x04
    else s.stored 0xFF05 (Memory.read s.mem 0xFF05 + 1) := by
  unfold timaTick
  dsimp only
  rw [s.read_at 0xFF05 (a := 0xFF05) rfl (by decide) (by decide),
    s.read_at 0xFF06 (a := 0xFF06) rfl (by decide) (by decide),
    s.quiet_at 0xFF05 rfl (by decide) (by decide), s.quiet_at 0xFF05 rfl (by decide) (by decide)]

theorem timaTick_onlyTimer (s : State) : s.OnlyTimer (timaTick s) := by
  rw [timaTick_eq]
  split
  · rw [State.request_eq_stored]; exact (s.onlyTimer_stored _ _).trans (State.onlyTimer_stored _ _ _)
  · exact s.onlyTimer_stored _ _

theorem timaTick_timer (s : State) : (timaTick s).timer = s.timer := by
  rw [timaTick_eq]
  split
  · rw [State.request_eq_stored]; rfl
  · rfl

theorem timaTick_wf (h : Memory.wf s.mem = true) : Memory.wf (timaTick s).mem = true := by
  rw [timaTick_eq]
  split
  · rw [State.request_eq_stored]; exact State.stored_wf (State.stored_wf h _ _) _ _
  · exact State.stored_wf h _ _

/-- A tick of `TIMA` (R343, R344). -/
theorem read_timaTick (h : Memory.wf s.mem = true) (k : Nat) : Memory.read (timaTick s).mem k =
    if k = 0xFF05 then (if Memory.read s.mem 0xFF05 = 0xFF then Memory.read s.mem 0xFF06
      else Memory.read s.mem 0xFF05 + 1)
    else if k = 0xFF0F ∧ Memory.read s.mem 0xFF05 = 0xFF then Memory.read s.mem 0xFF0F ||| 0x04
    else Memory.read s.mem k := by
  rw [timaTick_eq]
  by_cases ho : Memory.read s.mem 0xFF05 = 0xFF
  · rw [if_pos ho, if_pos ho, State.read_request (State.stored_wf h _ _), State.read_stored h, State.read_stored h,
      if_neg (by decide : ¬ 0xFF0F = 0xFF05)]
    by_cases hk : k = 0xFF05
    · rw [if_neg (by omega), if_pos hk, if_pos hk]
    · rw [if_neg hk, if_neg hk]
      exact if_congr ⟨fun e => ⟨e, ho⟩, And.left⟩ rfl rfl
  · rw [if_neg ho, if_neg ho, State.read_stored h, if_neg (c := k = 0xFF0F ∧ _) fun e => ho e.2]

/-- Does the counter run, and does it tick in this unit (R341, R343)? -/
def State.timaEnabled (s : State) : Bool := (Memory.read s.mem 0xFF07).getLsbD 2

def State.timaTicks (s : State) : Bool :=
  s.timaEnabled && decide (threshold (Memory.read s.mem 0xFF07) ≤ s.timer.timaAcc + 1)

theorem timaUnit_eq (s : State) : timaUnit s =
    if s.timaTicks = true then timaTick { s with timer := { s.timer with timaAcc := 0 } }
    else { s with timer := { s.timer with
      timaAcc := if s.timaEnabled = true then s.timer.timaAcc + 1 else s.timer.timaAcc } } := by
  unfold timaUnit State.timaTicks State.timaEnabled
  dsimp only
  rw [s.read_at 0xFF07 (a := 0xFF07) rfl (by decide) (by decide)]
  by_cases he : (Memory.read s.mem 0xFF07).getLsbD 2 = true
  · rw [if_pos he, if_pos he, he, Bool.true_and]
    exact if_congr (decide_eq_true_iff).symm rfl rfl
  · rw [if_neg he, if_neg he, Bool.eq_false_of_not_eq_true he, Bool.false_and]
    rfl

theorem timaUnit_onlyTimer (s : State) : s.OnlyTimer (timaUnit s) := by
  have cleared : s.OnlyTimer { s with timer := { s.timer with timaAcc := 0 } } := rfl
  rw [timaUnit_eq]
  split
  · exact cleared.trans (timaTick_onlyTimer _)
  · exact rfl

theorem timaUnit_timer (s : State) : (timaUnit s).timer = { s.timer with timaAcc :=
    if s.timaTicks = true then 0 else if s.timaEnabled = true then s.timer.timaAcc + 1 else s.timer.timaAcc } := by
  rw [timaUnit_eq]
  by_cases h : s.timaTicks = true
  · rw [if_pos h, if_pos h, timaTick_timer]
  · rw [if_neg h, if_neg h]

theorem read_timaUnit (h : Memory.wf s.mem = true) (k : Nat) : Memory.read (timaUnit s).mem k =
    if k = 0xFF05 ∧ s.timaTicks = true then (if Memory.read s.mem 0xFF05 = 0xFF then Memory.read s.mem 0xFF06
      else Memory.read s.mem 0xFF05 + 1)
    else if k = 0xFF0F ∧ s.timaTicks = true ∧ Memory.read s.mem 0xFF05 = 0xFF then Memory.read s.mem 0xFF0F ||| 0x04
    else Memory.read s.mem k := by
  rw [timaUnit_eq]
  by_cases ht : s.timaTicks = true
  · simp only [ht, if_true, and_true, true_and]
    exact read_timaTick (s := { s with timer := { s.timer with timaAcc := 0 } }) h k
  · rw [if_neg ht, if_neg (c := k = 0xFF05 ∧ _) fun e => ht e.2, if_neg (c := k = 0xFF0F ∧ _) fun e => ht e.2.1]

/-- The Timer's turn, with units left. -/
theorem step_timer {n : Nat} (h : s.clock.phase = .timer (n + 1)) :
    step s = .next ((timerUnit s).setPhase (.timer n)) := by
  unfold step
  rw [h]
  rfl

/-- Settles O45: the divider's part, then the counter's, which reads no byte the first can write. -/
theorem timerCounts : Obligations.TimerCounts := by
  unfold Obligations.TimerCounts
  intro s n m hp
  have div := read_divUnit m.mem
  have other {k : Nat} (hk : k ≠ 0xFF04) : Memory.read (divUnit s).mem k = Memory.read s.mem k :=
    (div k).trans (if_neg fun e => hk e.1)
  have divTimer : (divUnit s).timer = _ := congrArg State.timer (divUnit_eq s)
  have only : s.OnlyTimer (timerUnit s) := (divUnit_onlyTimer s).trans (timaUnit_onlyTimer _)
  have enabled : (divUnit s).timaEnabled = decide ((s.read 0xFF07).toNat / 4 % 2 = 1) := by
    rw [State.timaEnabled, other (by decide), getLsbD_two, s.read_at 0xFF07 (a := 0xFF07) rfl (by decide) (by decide)]
  have ticks : (divUnit s).timaTicks = (decide ((s.read 0xFF07).toNat / 4 % 2 = 1) && decide
      ((if (s.read 0xFF07).toNat % 4 = 0 then 64 else if (s.read 0xFF07).toNat % 4 = 1 then 1
        else if (s.read 0xFF07).toNat % 4 = 2 then 4 else 16) ≤ s.timer.timaAcc + 1)) := by
    rw [State.timaTicks, enabled, other (by decide), threshold_eq, divTimer,
      s.read_at 0xFF07 (a := 0xFF07) rfl (by decide) (by decide)]
  have tima := read_timaUnit (divUnit_wf m.mem)
  rw [ticks, other (by decide : 0xFF05 ≠ 0xFF04), other (by decide : 0xFF06 ≠ 0xFF04),
    other (by decide : 0xFF0F ≠ 0xFF04)] at tima
  have timer := timaUnit_timer (divUnit s)
  rw [ticks, enabled, divTimer] at timer
  refine ⟨_, step_timer hp, ?_, ?_⟩
  · rw [only]; rfl
  · have reg (u : State) : u.read 0xFF04 = Memory.read u.mem 0xFF04 ∧ u.read 0xFF05 = Memory.read u.mem 0xFF05 ∧
        u.read 0xFF06 = Memory.read u.mem 0xFF06 ∧ u.read 0xFF0F = Memory.read u.mem 0xFF0F :=
      ⟨u.read_FF04, u.read_FF05, u.read_FF06, u.read_FF0F⟩
    obtain ⟨s4, s5, s6, sF⟩ := reg s
    obtain ⟨t4, t5, -, tF⟩ := reg ((timerUnit s).setPhase (.timer n))
    rw [s4, s5, s6, sF, t4, t5, tF]
    intro tac period divTick enabled' tick overflow
    have overflows : overflow = true ↔ tick = true ∧ Memory.read s.mem 0xFF05 = 0xFF := by
      simp only [overflow, Bool.and_eq_true, decide_eq_true_iff]
    refine ⟨?_, ?_, ?_, ?_, ?_, fun b h4 h5 hF => ?_⟩
    · exact (congrArg Timer.divAcc timer).trans (if_congr decide_eq_true_iff.symm rfl rfl)
    · refine (tima 0xFF04).trans ((if_neg (by simp)).trans ((if_neg (by simp)).trans ((div 0xFF04).trans ?_)))
      rw [add_one_eq]
      exact if_congr ((and_iff_right rfl).trans decide_eq_true_iff.symm) rfl rfl
    · exact congrArg Timer.timaAcc timer
    · refine (tima 0xFF05).trans ?_
      rw [add_one_eq, if_neg (c := 0xFF05 = 0xFF0F ∧ _) (by simp), other (by decide)]
      by_cases ht : tick = true
      · rw [if_pos ⟨rfl, ht⟩, if_pos ht]
        exact if_congr ((and_iff_right ht).symm.trans overflows.symm) rfl rfl
      · rw [if_neg fun e => ht e.2, if_neg fun e => ht (overflows.mp e).1, if_neg ht]
    · refine (tima 0xFF0F).trans ((if_neg (by simp)).trans ?_)
      rw [other (by decide)]
      exact if_congr ((and_iff_right rfl).trans overflows.symm) rfl rfl
    · have bus : s.SameBus ((timerUnit s).setPhase (.timer n)) := by
        constructor <;> rw [only] <;> rfl
      refine bus.read (ks := [0xFF04, 0xFF05, 0xFF0F]) (by simp) (fun k hk => ?_) ?_
      · refine (tima k).trans ((if_neg fun e => hk 0xFF05 (by simp) e.1).trans
          ((if_neg fun e => hk 0xFF0F (by simp) e.1).trans (other (hk 0xFF04 (by simp)))))
      · simp only [List.mem_cons, List.not_mem_nil, or_false, not_or]
        exact ⟨h4, h5, hF⟩

/-! ### The APU -/

/-- A read outside the sound block does not see the sound bytes. -/
theorem State.read_of_sound (hb : t.bios = s.bios) (hmap : t.biosMapped = s.biosMapped) (hc : t.cart = s.cart)
    (hm : t.mem = s.mem) (ha : ¬ (0xFF10 ≤ a.toNat ∧ a.toNat ≤ 0xFF3F)) : t.read a = s.read a := by
  unfold State.read
  rw [State.place_congr hmap hc]
  cases hp : s.place a <;> simp only [State.placeRead, hb, hc]
  next k =>
  have quiet : isSound k = false := by
    rw [Bool.eq_false_iff]
    intro e
    have range := isSound_iff.mp e
    exact ha (State.place_ram_own hp (by omega) ▸ range)
  simp only [State.ramRead, quiet, hm, Bool.false_eq_true, if_false]

theorem step_apu (h : s.clock.phase = .apu) : step s = .next (apuTurn s) := by
  unfold step
  rw [h]

/-- Settles O51: the turn sets the sound bytes, and no other address names one. -/
theorem apuIsConfined : Obligations.ApuIsConfined := by
  unfold Obligations.ApuIsConfined
  intro s hp
  refine ⟨_, step_apu hp, ?_⟩
  unfold apuTurn State.setPhase
  exact ⟨fun a ha => State.read_of_sound rfl rfl rfl rfl ha, rfl⟩

/-! ### The PPU's steps change memory and the PPU alone -/

/-- `t` is `s` but for `mem` and the PPU. -/
def State.OnlyPpu (s t : State) : Prop := t = { s with mem := t.mem, ppu := t.ppu }

theorem State.OnlyPpu.trans (h : s.OnlyPpu t) (k : t.OnlyPpu u) : s.OnlyPpu u := by
  unfold State.OnlyPpu at *
  rw [k, h]

theorem State.OnlyRegisters.onlyPpu (h : s.OnlyRegisters t) : s.OnlyPpu t := h.mem_ppu

theorem State.OnlyPpu.clock (h : s.OnlyPpu t) : t.clock = s.clock := by rw [h]

theorem State.OnlyPpu.hostInput (h : s.OnlyPpu t) : t.hostInput = s.hostInput := by rw [h]

theorem State.OnlyPpu.cpu (h : s.OnlyPpu t) : t.cpu = s.cpu := by rw [h]

theorem State.OnlyPpu.sameBus (h : s.OnlyPpu t) : s.SameBus t := by
  constructor <;> rw [h]

theorem vBlankEntry_onlyPpu (s : State) : s.OnlyPpu (vBlankEntry s) :=
  (((s.onlyRegisters_setMode .vBlank).trans (State.onlyRegisters_request _ 0x01)).trans
    (State.onlyRegisters_statRequestIf _ 4)).onlyPpu.trans rfl

theorem oamScanStep_onlyPpu (s : State) : s.OnlyPpu (oamScanStep s) :=
  ((s.onlyRegisters_setMode .oamScan).trans (State.onlyRegisters_statRequestIf _ 5)).onlyPpu.trans rfl

theorem pixelTransferStep_onlyPpu (s : State) : s.OnlyPpu (pixelTransferStep s) :=
  (s.onlyRegisters_setMode .pixelTransfer).onlyPpu.trans rfl

/-- Mode 0 with its request, before the next line (R357). -/
def State.hBlankEntered (s : State) : State := (s.setMode .hBlank).statRequestIf 3

theorem State.onlyRegisters_hBlankEntered (s : State) : s.OnlyRegisters s.hBlankEntered :=
  (s.onlyRegisters_setMode .hBlank).trans (State.onlyRegisters_statRequestIf _ 3)

theorem hBlankStep_eq (s : State) : hBlankStep s = (s.hBlankEntered.setLy (s.ppu.ly + 1)).ppuNext
    (if (s.ppu.ly + 1).toNat < 144 then .oamScan else .vBlank) 44 := by
  have line : (s.hBlankEntered.setLy (s.ppu.ly + 1)).ppu.ly = s.ppu.ly + 1 := by rw [State.setLy_ppu]
  show (s.hBlankEntered.setLy (s.ppu.ly + 1)).ppuNext
    (if (s.hBlankEntered.setLy (s.ppu.ly + 1)).ppu.ly.toNat < 144 then .oamScan else .vBlank) 44 = _
  rw [line]

/-- The state in which V-Blank's line ends: line 144 begins with the entry work (R358). -/
def State.vBlankEntered (s : State) : State := if s.ppu.ly = 144 then vBlankEntry s else s

/-- The line after a V-Blank line (R358). -/
def State.vBlankNextLine (s : State) : Byte := if s.ppu.ly = 153 then 0 else s.ppu.ly + 1

theorem vBlankStep_eq (s : State) : vBlankStep s =
    (s.vBlankEntered.setLy s.vBlankNextLine).ppuNext (if s.vBlankNextLine = 0 then .oamScan else .vBlank) 228 := by
  have line : (s.vBlankEntered.setLy s.vBlankNextLine).ppu.ly = s.vBlankNextLine := by rw [State.setLy_ppu]
  show (s.vBlankEntered.setLy s.vBlankNextLine).ppuNext
    (if (s.vBlankEntered.setLy s.vBlankNextLine).ppu.ly = 0 then .oamScan else .vBlank) 228 = _
  rw [line]

theorem State.onlyPpu_ppuNext (s : State) (n : PpuStep) (cost : Nat) : s.OnlyPpu (s.ppuNext n cost) := rfl

theorem hBlankStep_onlyPpu (s : State) : s.OnlyPpu (hBlankStep s) := by
  rw [hBlankStep_eq]
  exact (s.onlyRegisters_hBlankEntered.trans (State.onlyRegisters_setLy _ _)).onlyPpu.trans
    (State.onlyPpu_ppuNext _ _ _)

theorem vBlankEntered_onlyPpu (s : State) : s.OnlyPpu s.vBlankEntered := by
  unfold State.vBlankEntered
  split
  · exact vBlankEntry_onlyPpu s
  · exact rfl

theorem vBlankStep_onlyPpu (s : State) : s.OnlyPpu (vBlankStep s) := by
  rw [vBlankStep_eq]
  exact ((vBlankEntered_onlyPpu s).trans (State.onlyRegisters_setLy _ _).onlyPpu).trans (State.onlyPpu_ppuNext _ _ _)

theorem ppuStep_onlyPpu (s : State) : s.OnlyPpu (ppuStep s) := by
  unfold ppuStep
  cases s.ppu.nextStep with
  | oamScan => exact oamScanStep_onlyPpu s
  | pixelTransfer => exact pixelTransferStep_onlyPpu s
  | hBlank => exact hBlankStep_onlyPpu s
  | vBlank => exact vBlankStep_onlyPpu s

theorem timerUnit_onlyTimer (s : State) : s.OnlyTimer (timerUnit s) :=
  (divUnit_onlyTimer s).trans (timaUnit_onlyTimer _)

/-! ### The order of the units -/

/-- What a step outside the end of a slice does to the Clock: the slice and the host's coming operations stay. -/
def State.SameSlice (s t : State) (p : Phase) : Prop :=
  t.clock = { s.clock with phase := p } ∧ t.hostInput = s.hostInput

theorem State.Moves.sameSlice (h : s.Moves t) : s.SameSlice t s.clock.phase := by
  obtain ⟨-, clock, -, -, input, -⟩ := h.kept
  exact ⟨clock, input⟩

theorem cpuTurn_sameSlice (h : cpuTurn s = .next t) : s.SameSlice t s.clock.phase ∨ s.SameSlice t (.mmu 114) := by
  rcases cpuTurn_next h with ⟨-, rfl⟩ | ⟨-, h⟩
  · exact .inr ⟨rfl, rfl⟩
  · exact .inl h.sameSlice

theorem dmaTurn_sameSlice {n : Nat} (h : dmaTurn n s = .next t) : (0 < n ∧ s.SameSlice t (.mmu (n - 1))) ∨
    (s.ppu.lcdOn = true ∧ s.SameSlice t .ppu) ∨ (s.ppu.lcdOn = false ∧ s.SameSlice t .apu) := by
  rcases dmaTurn_next h with rfl | ⟨m, c, rest, rfl, -, h⟩
  · rw [enterPpu_eq]
    cases s.ppu.lcdOn with
    | true => exact .inr (.inl ⟨rfl, rfl, rfl⟩)
    | false => exact .inr (.inr ⟨rfl, rfl, rfl⟩)
  · obtain ⟨clock, input⟩ := (State.Moves.writeByte h).sameSlice
    exact .inl ⟨Nat.succ_pos m, clock, input⟩

theorem ppuTurn_sameSlice (s : State) :
    s.SameSlice (ppuTurn s) s.clock.phase ∨ s.SameSlice (ppuTurn s) .apu := by
  unfold ppuTurn
  split
  · exact .inr ⟨rfl, rfl⟩
  · exact .inl ⟨(ppuStep_onlyPpu s).clock, (ppuStep_onlyPpu s).hostInput⟩

theorem apuTurn_sameSlice (s : State) : s.SameSlice (apuTurn s) (.timer s.timerBudget) := by
  unfold apuTurn State.setPhase
  constructor <;> rfl

theorem timerUnit_sameSlice (s : State) (n : Nat) : s.SameSlice ((timerUnit s).setPhase (.timer n)) (.timer n) := by
  have only := timerUnit_onlyTimer s
  refine ⟨?_, ?_⟩
  · show { (timerUnit s).clock with phase := Phase.timer n } = _
    rw [only]
  · show (timerUnit s).hostInput = _
    rw [only]

/-- Within a slice the units run in their order. -/
theorem step_sameSlice (h : step s = .next t) (hs : s.clock.phase ≠ .timer 0) : ∃ p, s.SameSlice t p ∧
    match s.clock.phase with
    | .cpuCall => p = .cpu ∨ p = .mmu 114
    | .cpu => p = .cpu ∨ p = .mmu 114
    | .mmu n => (0 < n ∧ p = .mmu (n - 1)) ∨ (p = .ppu ∧ s.ppu.lcdOn = true) ∨ (p = .apu ∧ s.ppu.lcdOn = false)
    | .ppu => p = .ppu ∨ p = .apu
    | .apu => p = .timer (s.params.timerBudgets.getD (s.clock.slice % s.params.timerBudgets.length) 28)
    | .timer 0 => False
    | .timer (n + 1) => p = .timer n := by
  unfold step at h
  cases hp : s.clock.phase with rw [hp] at h
  | cpuCall =>
    rcases cpuTurn_sameSlice h with ⟨k, l⟩ | ⟨k, l⟩
    · exact ⟨.cpu, ⟨k, l⟩, .inl rfl⟩
    · exact ⟨.mmu 114, ⟨k, l⟩, .inr rfl⟩
  | cpu =>
    rcases cpuTurn_sameSlice h with k | k
    · exact ⟨.cpu, hp ▸ k, .inl rfl⟩
    · exact ⟨.mmu 114, k, .inr rfl⟩
  | mmu n =>
    rcases dmaTurn_sameSlice h with ⟨hn, k⟩ | ⟨on, k⟩ | ⟨off, k⟩
    · exact ⟨_, k, .inl ⟨hn, rfl⟩⟩
    · exact ⟨_, k, .inr (.inl ⟨rfl, on⟩)⟩
    · exact ⟨_, k, .inr (.inr ⟨rfl, off⟩)⟩
  | ppu =>
    cases h
    rcases ppuTurn_sameSlice s with k | k
    · exact ⟨.ppu, hp ▸ k, .inl rfl⟩
    · exact ⟨.apu, k, .inr rfl⟩
  | apu =>
    rw [← Host.Outcome.next.inj h]
    exact ⟨_, apuTurn_sameSlice s, rfl⟩
  | timer left =>
    cases left with
    | zero => exact absurd hp hs
    | succ n =>
      rw [← Host.Outcome.next.inj h]
      exact ⟨_, timerUnit_sameSlice s n, rfl⟩

/-- Between frames the Clock stands at the first slice, and the host's operations leave it there. -/
theorem hostAction_clock {x : HostAction} (h : hostAction x s = .next t) (hs : s.clock = State.reset.clock) :
    t.clock = State.reset.clock := by
  rcases hostAction_next h with ⟨a, v, rfl⟩ | rfl | ⟨u, c, l, rfl, -⟩
  · exact (s.quiet_clock a v).trans hs
  · exact hs
  · rfl

theorem hostActions_kept {xs : List HostAction} (h : hostActions xs s = .next t) (hs : s.clock = State.reset.clock) :
    t.clock = State.reset.clock ∧ t.hostInput = s.hostInput := by
  induction xs generalizing s with
  | nil => cases h; exact ⟨hs, rfl⟩
  | cons x xs ih =>
    obtain ⟨u, hx, hrest⟩ := andThen_next.mp h
    obtain ⟨clock, input⟩ := ih hrest (hostAction_clock hx hs)
    exact ⟨clock, input.trans (hostAction_kept hx).1⟩

/-- The end of a slice (R420, R422). -/
theorem step_endSlice (h : s.clock.phase = .timer 0) : step s =
    if (s.clock.slice + 1) % 154 = 0 then hostActions (s.hostInput.headD [])
      { s with clock := { phase := .cpuCall, slice := (s.clock.slice + 1) % 154 }, hostInput := s.hostInput.tail }
    else .next { s with clock := { phase := .cpuCall, slice := (s.clock.slice + 1) % 154 } } := by
  have stepped : step s = endSlice s := by
    unfold step
    rw [h]
    rfl
  rw [stepped, endSlice, frameBoundary]
  dsimp only
  refine if_congr Iff.rfl ?_ rfl
  cases hi : s.hostInput with
  | nil => rfl
  | cons xs rest => rfl

theorem step_endSlice_kept (hp : s.clock.phase = .timer 0) (h : step s = .next t) :
    t.clock = { phase := .cpuCall, slice := (s.clock.slice + 1) % 154 } ∧
    t.hostInput = if (s.clock.slice + 1) % 154 = 0 then s.hostInput.tail else s.hostInput := by
  rw [step_endSlice hp] at h
  by_cases hf : (s.clock.slice + 1) % 154 = 0
  · rw [if_pos hf] at h
    obtain ⟨clock, input⟩ := hostActions_kept h (by rw [hf]; rfl)
    rw [if_pos hf, hf]
    exact ⟨clock, input⟩
  · rw [if_neg hf] at h
    cases h
    rw [if_neg hf]
    exact ⟨rfl, rfl⟩

/-- Settles O52: a step inside a slice moves to its own unit or the next, the end of a slice to the next slice. -/
theorem orderOfTheUnits : Obligations.OrderOfTheUnits := by
  unfold Obligations.OrderOfTheUnits
  refine ⟨fun s t h => ?_, fun s t h => ?_, fun s hp => step_endSlice hp⟩
  · by_cases hs : s.clock.phase = .timer 0
    · rw [hs, (step_endSlice_kept hs h).1]
    · obtain ⟨p, ⟨clock, -⟩, order⟩ := step_sameSlice h hs
      have phase : t.clock.phase = p := congrArg Clock.phase clock
      rw [phase]
      cases hp : s.clock.phase with rw [hp] at order
      | timer left =>
        cases left with
        | zero => exact absurd hp hs
        | succ n => exact order
      | _ => exact order
  · by_cases hs : s.clock.phase = .timer 0
    · obtain ⟨clock, input⟩ := step_endSlice_kept hs h
      refine ⟨?_, input.trans (if_congr (and_iff_right hs).symm rfl rfl)⟩
      rw [clock, if_pos hs]
    · obtain ⟨p, ⟨clock, input⟩, -⟩ := step_sameSlice h hs
      refine ⟨?_, input.trans (if_neg fun e => hs e.1).symm⟩
      rw [clock, if_neg hs]

end Sys2Proof.Machine
end

section
/-! SUPPORT. The steps of the PPU (R350 to R358, R362): the registers, the PPU's own state and the Bitmap after each, and
the line a call makes (R351). -/

namespace Sys2Proof.Machine

variable {s t u : State} {a b : Word} {v : Byte}

theorem step_ppu (h : s.clock.phase = .ppu) (hc : 0 < s.ppu.credit) : step s = .next (ppuStep s) := by
  unfold step
  rw [h]
  exact congrArg _ (if_neg (by omega))

theorem step_ppu_spent (h : s.clock.phase = .ppu) (hc : s.ppu.credit ≤ 0) : step s = .next (s.setPhase .apu) := by
  unfold step
  rw [h]
  exact congrArg _ (if_pos hc)

theorem step_oamScan (h : s.clock.phase = .ppu) (hc : 0 < s.ppu.credit) (hn : s.ppu.nextStep = .oamScan) :
    step s = .next (oamScanStep s) := by
  rw [step_ppu h hc, ppuStep, hn]

theorem step_pixelTransfer (h : s.clock.phase = .ppu) (hc : 0 < s.ppu.credit) (hn : s.ppu.nextStep = .pixelTransfer) :
    step s = .next (pixelTransferStep s) := by
  rw [step_ppu h hc, ppuStep, hn]

theorem step_hBlank (h : s.clock.phase = .ppu) (hc : 0 < s.ppu.credit) (hn : s.ppu.nextStep = .hBlank) :
    step s = .next (hBlankStep s) := by
  rw [step_ppu h hc, ppuStep, hn]

theorem step_vBlank (h : s.clock.phase = .ppu) (hc : 0 < s.ppu.credit) (hn : s.ppu.nextStep = .vBlank) :
    step s = .next (vBlankStep s) := by
  rw [step_ppu h hc, ppuStep, hn]

/-! ### The PPU's own state after a step -/

theorem State.ppuNext_ppu (s : State) (n : PpuStep) (cost : Nat) :
    (s.ppuNext n cost).ppu = { s.ppu with nextStep := n, credit := s.ppu.credit - cost } := rfl

theorem State.ppuNext_mem (s : State) (n : PpuStep) (cost : Nat) : (s.ppuNext n cost).mem = s.mem := rfl

theorem State.drawLine_ppu (s : State) (ly : Nat) : (s.drawLine ly).ppu =
    { s.ppu with bitmap := s.ppu.bitmap.setIfInBounds ly (Vector.ofFn fun x => BitVec.ofNat 2 (s.pixel x ly)) } := rfl

theorem oamScanStep_ppu (s : State) : (oamScanStep s).ppu =
    { s.ppu with mode := .oamScan, nextStep := .pixelTransfer, credit := s.ppu.credit - 40 } := by
  rw [oamScanStep, State.ppuNext_ppu, State.statRequestIf_ppu, State.setMode_ppu]
  rfl

/-- The Bitmap with line `ly` drawn. -/
def State.drawnBitmap (s : State) : Vector (Vector (BitVec 2) 160) 144 :=
  s.ppu.bitmap.setIfInBounds s.ppu.ly.toNat
    (Vector.ofFn fun x => BitVec.ofNat 2 ((s.setMode .pixelTransfer).pixel x s.ppu.ly.toNat))

theorem pixelTransferStep_ppu (s : State) : (pixelTransferStep s).ppu =
    { s.ppu with mode := .pixelTransfer, nextStep := .hBlank, credit := s.ppu.credit - 144,
                 bitmap := s.drawnBitmap } := by
  rw [pixelTransferStep, State.ppuNext_ppu, State.drawLine_ppu, State.setMode_ppu, State.drawnBitmap]
  rfl

theorem hBlankStep_ppu (s : State) : (hBlankStep s).ppu =
    { s.ppu with ly := s.ppu.ly + 1, mode := .hBlank, coincidence := decide (s.ppu.ly + 1 = Memory.read s.mem 0xFF45),
                 credit := s.ppu.credit - 44,
                 nextStep := if (s.ppu.ly + 1).toNat < 144 then .oamScan else .vBlank } := by
  rw [hBlankStep_eq, State.ppuNext_ppu, State.setLy_ppu,
    s.onlyRegisters_hBlankEntered.bytes _ (by decide) (by decide) (by decide), State.hBlankEntered,
    State.statRequestIf_ppu, State.setMode_ppu]
  rfl

theorem vBlankEntry_ppu (s : State) : (vBlankEntry s).ppu =
    { s.ppu with mode := .vBlank, framesReady := s.ppu.framesReady + 1 } := by
  unfold vBlankEntry
  dsimp only
  rw [State.statRequestIf_ppu, State.request_ppu, State.setMode_ppu]

theorem vBlankEntered_onlyBytes (s : State) {k : Nat} (h1 : k ≠ 0xFF0F) (h2 : k ≠ 0xFF41) (h3 : k ≠ 0xFF44) :
    Memory.read s.vBlankEntered.mem k = Memory.read s.mem k := by
  unfold State.vBlankEntered
  split
  · exact (((s.onlyRegisters_setMode .vBlank).trans (State.onlyRegisters_request _ 0x01)).trans
      (State.onlyRegisters_statRequestIf _ 4)).bytes k h1 h2 h3
  · rfl

theorem vBlankEntered_ppu (s : State) : s.vBlankEntered.ppu =
    { s.ppu with mode := if s.ppu.ly = 144 then .vBlank else s.ppu.mode,
                 framesReady := s.ppu.framesReady + if s.ppu.ly = 144 then 1 else 0 } := by
  unfold State.vBlankEntered
  split
  · exact vBlankEntry_ppu s
  · rfl

theorem vBlankStep_ppu (s : State) : (vBlankStep s).ppu =
    { s.ppu with ly := s.vBlankNextLine, mode := if s.ppu.ly = 144 then .vBlank else s.ppu.mode,
                 coincidence := decide (s.vBlankNextLine = Memory.read s.mem 0xFF45),
                 credit := s.ppu.credit - 228,
                 nextStep := if s.vBlankNextLine = 0 then .oamScan else .vBlank,
                 framesReady := s.ppu.framesReady + if s.ppu.ly = 144 then 1 else 0 } := by
  rw [vBlankStep_eq, State.ppuNext_ppu, State.setLy_ppu,
    vBlankEntered_onlyBytes s (by decide) (by decide) (by decide), vBlankEntered_ppu]
  rfl

/-! ### The registers after a step -/

/-- Two requests of the same interrupt are one. -/
theorem request_twice (x : Byte) (p q : Prop) [Decidable p] [Decidable q] :
    (if q then (if p then x ||| 0x02 else x) ||| 0x02 else (if p then x ||| 0x02 else x)) =
      if p ∨ q then x ||| 0x02 else x := by
  by_cases hp : p <;> by_cases hq : q <;> simp only [hp, hq, if_true, if_false, or_self, or_true, true_or]
  rw [BitVec.or_assoc, BitVec.or_self]

theorem State.stat_statRequestIf (h : Memory.wf s.mem = true) (b : Nat) :
    Memory.read (s.statRequestIf b).mem 0xFF41 = Memory.read s.mem 0xFF41 :=
  (State.read_statRequestIf h b _).trans (if_neg (by simp))

theorem State.if_statRequestIf (h : Memory.wf s.mem = true) (b : Nat) : Memory.read (s.statRequestIf b).mem 0xFF0F =
    if (Memory.read s.mem 0xFF41).getLsbD b = true then Memory.read s.mem 0xFF0F ||| 0x02
    else Memory.read s.mem 0xFF0F :=
  (State.read_statRequestIf h b _).trans (if_congr (and_iff_right rfl) rfl rfl)

theorem State.setMode_wf (h : Memory.wf s.mem = true) (m : PpuMode) : Memory.wf (s.setMode m).mem = true :=
  (s.onlyRegisters_setMode m).wf h

theorem State.statRequestIf_wf (h : Memory.wf s.mem = true) (b : Nat) : Memory.wf (s.statRequestIf b).mem = true :=
  (s.onlyRegisters_statRequestIf b).wf h

/-- A mode's request reads the enable bit `STAT` had before (R353, R354). -/
theorem State.if_modeRequest (h : Memory.wf s.mem = true) (m : PpuMode) {b : Nat} (hb : 3 ≤ b) :
    Memory.read ((s.setMode m).statRequestIf b).mem 0xFF0F =
      if (Memory.read s.mem 0xFF41).getLsbD b = true then Memory.read s.mem 0xFF0F ||| 0x02
      else Memory.read s.mem 0xFF0F := by
  rw [State.if_statRequestIf (State.setMode_wf h m), State.read_setMode_other (k := 0xFF0F) _ _ (by decide),
    State.stat_setMode h, Ppu.getLsbD_stat_upper _ _ hb]

theorem State.stat_modeRequest (h : Memory.wf s.mem = true) (m : PpuMode) (b : Nat) :
    Memory.read ((s.setMode m).statRequestIf b).mem 0xFF41 =
      ((s.setMode m).statRequestIf b).ppu.stat (Memory.read s.mem 0xFF41) := by
  rw [State.stat_statRequestIf (State.setMode_wf h m), State.stat_setMode h, State.statRequestIf_ppu]

theorem stat_oamScanStep (h : Memory.wf s.mem = true) :
    Memory.read (oamScanStep s).mem 0xFF41 = (oamScanStep s).ppu.stat (Memory.read s.mem 0xFF41) :=
  State.stat_modeRequest h .oamScan 5

theorem stat_pixelTransferStep (h : Memory.wf s.mem = true) :
    Memory.read (pixelTransferStep s).mem 0xFF41 = (pixelTransferStep s).ppu.stat (Memory.read s.mem 0xFF41) :=
  State.stat_setMode h .pixelTransfer

theorem State.stat_ppuNext (p : PpuStep) (cost : Nat) (x : Byte) : (s.ppuNext p cost).ppu.stat x = s.ppu.stat x := rfl

theorem State.hBlankEntered_wf (h : Memory.wf s.mem = true) : Memory.wf s.hBlankEntered.mem = true :=
  s.onlyRegisters_hBlankEntered.wf h

theorem State.stat_hBlankEntered (h : Memory.wf s.mem = true) :
    Memory.read s.hBlankEntered.mem 0xFF41 = s.hBlankEntered.ppu.stat (Memory.read s.mem 0xFF41) :=
  State.stat_modeRequest h .hBlank 3

theorem stat_hBlankStep (h : Memory.wf s.mem = true) :
    Memory.read (hBlankStep s).mem 0xFF41 = (hBlankStep s).ppu.stat (Memory.read s.mem 0xFF41) := by
  rw [hBlankStep_eq, State.ppuNext_mem, State.stat_ppuNext]
  exact State.stat_setLy (State.hBlankEntered_wf h) (State.stat_hBlankEntered h) _

theorem ly_hBlankStep (h : Memory.wf s.mem = true) : Memory.read (hBlankStep s).mem 0xFF44 = s.ppu.ly + 1 := by
  rw [hBlankStep_eq, State.ppuNext_mem, State.read_setLy (State.hBlankEntered_wf h), if_pos rfl]

theorem if_hBlankStep (h : Memory.wf s.mem = true) : Memory.read (hBlankStep s).mem 0xFF0F =
    if (Memory.read s.mem 0xFF41).getLsbD 3 = true ∨
        (s.ppu.ly + 1 = Memory.read s.mem 0xFF45 ∧ (Memory.read s.mem 0xFF41).getLsbD 6 = true)
      then Memory.read s.mem 0xFF0F ||| 0x02 else Memory.read s.mem 0xFF0F := by
  rw [hBlankStep_eq, State.ppuNext_mem, State.if_setLy (State.hBlankEntered_wf h),
    s.onlyRegisters_hBlankEntered.bytes _ (by decide) (by decide) (by decide), State.stat_hBlankEntered h,
    Ppu.getLsbD_stat_upper _ _ (by decide), State.hBlankEntered, State.if_modeRequest h _ (by decide), request_twice]

/-! ### V-Blank's entry and line -/

theorem vBlankEntered_wf (h : Memory.wf s.mem = true) : Memory.wf s.vBlankEntered.mem = true := by
  unfold State.vBlankEntered
  split
  · exact State.statRequestIf_wf ((State.onlyRegisters_request _ _).wf (State.setMode_wf h _)) _
  · exact h

theorem stat_vBlankEntered (h : Memory.wf s.mem = true) : Memory.read s.vBlankEntered.mem 0xFF41 =
    if s.ppu.ly = 144 then Ppu.stat { s.ppu with mode := .vBlank } (Memory.read s.mem 0xFF41)
    else Memory.read s.mem 0xFF41 := by
  have h' := (State.onlyRegisters_request (s.setMode .vBlank) 0x01).wf (State.setMode_wf h _)
  unfold State.vBlankEntered
  split
  · refine (State.stat_statRequestIf h' 4).trans ((State.read_request (State.setMode_wf h _) _ _).trans ?_)
    rw [if_neg (by decide), State.stat_setMode h, State.setMode_ppu]
  · rfl

theorem getLsbD_or_one (x : Byte) (k : Nat) : (x ||| 0x01).getLsbD k = (x.getLsbD k || decide (k = 0)) := by
  rw [BitVec.getLsbD_or]
  congr 1
  by_cases h : k < 8
  · interval_cases k <;> rfl
  · rw [BitVec.getLsbD_of_ge _ _ (by omega), eq_comm, decide_eq_false_iff_not]
    omega

theorem getLsbD_if_vBlankEntered (h : Memory.wf s.mem = true) (k : Nat) :
    (Memory.read s.vBlankEntered.mem 0xFF0F).getLsbD k = ((Memory.read s.mem 0xFF0F).getLsbD k ||
      decide (s.ppu.ly = 144) && (decide (k = 0) || decide (k = 1) && (Memory.read s.mem 0xFF41).getLsbD 4)) := by
  have h' := (State.onlyRegisters_request (s.setMode .vBlank) 0x01).wf (State.setMode_wf h _)
  unfold State.vBlankEntered
  by_cases hl : s.ppu.ly = 144
  · rw [if_pos hl, decide_eq_true hl, Bool.true_and]
    have request : Memory.read (vBlankEntry s).mem 0xFF0F = if (Memory.read s.mem 0xFF41).getLsbD 4 = true
        then Memory.read s.mem 0xFF0F ||| 0x01 ||| 0x02 else Memory.read s.mem 0xFF0F ||| 0x01 := by
      have flags : Memory.read ((s.setMode .vBlank).request 0x01).mem 0xFF0F = Memory.read s.mem 0xFF0F ||| 0x01 := by
        rw [State.read_request (State.setMode_wf h _), if_pos rfl, State.read_setMode_other _ _ (by decide)]
      have stat : Memory.read ((s.setMode .vBlank).request 0x01).mem 0xFF41 = _ :=
        (State.read_request (State.setMode_wf h _) _ _).trans ((if_neg (by decide)).trans (State.stat_setMode h _))
      refine (State.if_statRequestIf h' 4).trans ?_
      rw [flags, stat, Ppu.getLsbD_stat_upper _ _ (by decide)]
    rw [request, getLsbD_requested, getLsbD_or_one, Bool.decide_eq_true, Bool.or_assoc]
  · rw [if_neg hl, decide_eq_false hl, Bool.false_and, Bool.or_false]

/-- The mode's bits beside the coincidence's (R353, R362). -/
theorem coincidence_mode (x : Byte) (c : Bool) : ((x &&& 0xFB) ||| (bit8 c <<< 2)).toNat % 4 = x.toNat % 4 := by
  have low (y : Byte) : y.toNat % 4 = (y &&& 0x03).toNat := by
    rw [BitVec.toNat_and]
    exact (Nat.and_two_pow_sub_one_eq_mod _ 2).symm
  have mask : (bit8 c <<< 2) &&& 0x03 = 0 := by cases c <;> rfl
  rw [low, low, BitVec.and_or_distrib_right, mask, BitVec.and_assoc]
  exact congrArg BitVec.toNat (BitVec.or_zero (x := x &&& 0x03))

theorem stat_vBlankStep (h : Memory.wf s.mem = true) : Memory.read (vBlankStep s).mem 0xFF41 =
    (Memory.read s.vBlankEntered.mem 0xFF41 &&& 0xFB) |||
      (bit8 (decide (s.vBlankNextLine = Memory.read s.mem 0xFF45)) <<< 2) := by
  rw [vBlankStep_eq, State.ppuNext_mem, State.read_setLy (vBlankEntered_wf h), if_neg (by decide), if_pos rfl,
    vBlankEntered_onlyBytes (k := 0xFF45) s (by decide) (by decide) (by decide)]

theorem ly_vBlankStep (h : Memory.wf s.mem = true) : Memory.read (vBlankStep s).mem 0xFF44 = s.vBlankNextLine := by
  rw [vBlankStep_eq, State.ppuNext_mem, State.read_setLy (vBlankEntered_wf h), if_pos rfl]

theorem getLsbD_if_vBlankStep (h : Memory.wf s.mem = true) (k : Nat) :
    (Memory.read (vBlankStep s).mem 0xFF0F).getLsbD k = ((Memory.read s.mem 0xFF0F).getLsbD k ||
      decide (s.ppu.ly = 144) && (decide (k = 0) || decide (k = 1) && (Memory.read s.mem 0xFF41).getLsbD 4) ||
      decide (k = 1) && (decide (s.vBlankNextLine = Memory.read s.mem 0xFF45) &&
        (Memory.read s.mem 0xFF41).getLsbD 6)) := by
  have six : (Memory.read s.vBlankEntered.mem 0xFF41).getLsbD 6 = (Memory.read s.mem 0xFF41).getLsbD 6 := by
    rw [stat_vBlankEntered h]
    split
    · exact Ppu.getLsbD_stat_upper _ _ (by decide)
    · rfl
  have request := State.if_setLy (vBlankEntered_wf h) s.vBlankNextLine
  rw [six, vBlankEntered_onlyBytes (k := 0xFF45) s (by decide) (by decide) (by decide)] at request
  rw [vBlankStep_eq, State.ppuNext_mem, request, getLsbD_requested, getLsbD_if_vBlankEntered h,
    Bool.decide_and, Bool.decide_eq_true]

/-! ### The obligations -/

/-- The registers of these proofs as bytes of `mem`. -/
theorem State.read_registers (s : State) : s.read 0xFF0F = Memory.read s.mem 0xFF0F ∧
    s.read 0xFF41 = Memory.read s.mem 0xFF41 ∧ s.read 0xFF44 = Memory.read s.mem 0xFF44 ∧
    s.read 0xFF45 = Memory.read s.mem 0xFF45 :=
  ⟨s.read_FF0F, s.read_FF41, s.read_at 0xFF44 rfl (by decide) (by decide), s.read_FF45⟩

theorem State.OnlyPpu.eq_of_ppu (h : s.OnlyPpu t) {p : Ppu} (hp : t.ppu = p) :
    t = { s with mem := t.mem, ppu := p } := by
  subst hp
  exact h

/-- Reads beside the three registers the PPU's steps write. -/
theorem State.OnlyPpu.read (h : s.OnlyPpu t)
    (bytes : ∀ k, k ≠ 0xFF0F → k ≠ 0xFF41 → k ≠ 0xFF44 → Memory.read t.mem k = Memory.read s.mem k)
    (h1 : b ≠ 0xFF0F) (h2 : b ≠ 0xFF41) (h3 : b ≠ 0xFF44) : t.read b = s.read b := by
  refine h.sameBus.read (ks := [0xFF0F, 0xFF41, 0xFF44]) (by simp) (fun k hk => ?_) ?_
  · exact bytes k (hk 0xFF0F (by simp)) (hk 0xFF41 (by simp)) (hk 0xFF44 (by simp))
  · simp only [List.mem_cons, List.not_mem_nil, or_false, not_or]
    exact ⟨h1, h2, h3⟩

theorem oamScanStep_bytes (s : State) : ∀ k, k ≠ 0xFF0F → k ≠ 0xFF41 →
    Memory.read (oamScanStep s).mem k = Memory.read s.mem k := by
  intro k h1 h2
  show Memory.read ((s.setMode .oamScan).statRequestIf 5).mem k = _
  rw [State.statRequestIf_eq]
  dsimp only
  split
  · rw [Memory.read_write_other _ _ h1, State.read_setMode_other _ _ h2]
  · exact State.read_setMode_other _ _ h2

theorem pixelTransferStep_bytes (s : State) {k : Nat} (h : k ≠ 0xFF41) :
    Memory.read (pixelTransferStep s).mem k = Memory.read s.mem k := State.read_setMode_other s .pixelTransfer h

theorem hBlankStep_bytes (s : State) {k : Nat} (h1 : k ≠ 0xFF0F) (h2 : k ≠ 0xFF41) (h3 : k ≠ 0xFF44) :
    Memory.read (hBlankStep s).mem k = Memory.read s.mem k := by
  rw [hBlankStep_eq, State.ppuNext_mem, (State.onlyRegisters_setLy _ _).bytes k h1 h2 h3,
    s.onlyRegisters_hBlankEntered.bytes k h1 h2 h3]

theorem vBlankStep_bytes (s : State) {k : Nat} (h1 : k ≠ 0xFF0F) (h2 : k ≠ 0xFF41) (h3 : k ≠ 0xFF44) :
    Memory.read (vBlankStep s).mem k = Memory.read s.mem k := by
  rw [vBlankStep_eq, State.ppuNext_mem, (State.onlyRegisters_setLy _ _).bytes k h1 h2 h3,
    vBlankEntered_onlyBytes s h1 h2 h3]

/-- A drawn Bitmap shows the line drawn, and every other line as before. -/
theorem bitmap_set_rgba (x : Vector (Vector (BitVec 2) 160) 144) (l : Vector (BitVec 2) 160) {i y : Nat}
    (hi : i < 144) : (x.setIfInBounds i l).getD y (Vector.replicate 160 0) =
      if y = i then l else x.getD y (Vector.replicate 160 0) := by
  unfold Vector.getD
  rw [Vector.toArray_setIfInBounds]
  simp only [Array.getD_eq_getD_getElem?, Array.getElem?_setIfInBounds]
  have : i < x.toArray.size := by simpa using hi
  by_cases h : y = i
  · subst h; simp [hi]
  · simp [h, Ne.symm h]

theorem ofFn_getD (f : Fin 160 → BitVec 2) {x : Nat} (h : x < 160) : (Vector.ofFn f).getD x 0 = f ⟨x, h⟩ := by
  unfold Vector.getD
  simp [Array.getD_eq_getD_getElem?, h]

/-- Settles O46: the mode's registers, the request of the first step, the Bitmap of the second. -/
theorem ppuDrawsALine : Obligations.PpuDrawsALine := by
  unfold Obligations.PpuDrawsALine
  intro s m hp hc
  obtain ⟨sF, s1, s4, -⟩ := s.read_registers
  refine ⟨fun hn => ⟨_, step_oamScan hp hc hn, ?_, ?_, ?_, fun b h1 hF => ?_⟩,
    fun hn hl => ⟨_, step_pixelTransfer hp hc hn, ?_, ?_, fun b h1 => ?_, fun x y hx hy => ?_⟩⟩
  · exact (oamScanStep_onlyPpu s).eq_of_ppu (oamScanStep_ppu s)
  · rw [(oamScanStep s).read_registers.1, s1, sF]
    exact State.if_modeRequest m.mem .oamScan (by decide)
  · rw [(oamScanStep s).read_registers.2.1, s1]
    exact stat_oamScanStep m.mem
  · by_cases h4 : b = 0xFF44
    · rw [h4, (oamScanStep s).read_registers.2.2.1, s4]
      exact oamScanStep_bytes s _ (by decide) (by decide)
    · exact (oamScanStep_onlyPpu s).read (fun k k1 k2 _ => oamScanStep_bytes s k k1 k2) hF h1 h4
  · have drawn : (pixelTransferStep s).ppu.bitmap = s.drawnBitmap := by rw [pixelTransferStep_ppu]
    rw [drawn]
    exact (pixelTransferStep_onlyPpu s).eq_of_ppu (pixelTransferStep_ppu s)
  · rw [(pixelTransferStep s).read_registers.2.1, s1]
    exact stat_pixelTransferStep m.mem
  · exact (pixelTransferStep_onlyPpu s).sameBus.read_other (k := 0xFF41) rfl (by decide)
      (fun k hk => pixelTransferStep_bytes s hk) h1
  · have drawn : (pixelTransferStep s).ppu.bitmap = s.drawnBitmap := by rw [pixelTransferStep_ppu]
    rw [State.rgba, drawn, State.drawnBitmap, bitmap_set_rgba _ _ hl, State.rgba]
    by_cases hyl : y = s.ppu.ly.toNat
    · rw [if_pos hyl, if_pos hyl, ofFn_getD _ hx, hyl]
    · rw [if_neg hyl, if_neg hyl]

/-- Settles O47: mode 0 and its request, then the next line with its own. -/
theorem ppuHBlank : Obligations.PpuHBlank := by
  unfold Obligations.PpuHBlank
  intro s m hp hc hn hl
  obtain ⟨sF, s1, s4, s5⟩ := s.read_registers
  obtain ⟨tF, t1, t4, -⟩ := (hBlankStep s).read_registers
  refine ⟨_, step_hBlank hp hc hn, ?_⟩
  rw [sF, s1, s5, tF, t1, t4]
  intro next co
  have last : (if (s.ppu.ly + 1).toNat < 144 then PpuStep.oamScan else .vBlank) =
      if next = 144 then .vBlank else .oamScan := by
    have sum : (s.ppu.ly + 1).toNat = s.ppu.ly.toNat + 1 := toNat_succ (by omega)
    by_cases h144 : next = 144
    · rw [if_pos h144, if_neg]
      rw [show s.ppu.ly + 1 = 144 from h144]
      decide
    · rw [if_neg h144, if_pos]
      have : (s.ppu.ly + 1).toNat ≠ 144 := fun e => h144 (BitVec.eq_of_toNat_eq e)
      omega
  refine ⟨?_, ly_hBlankStep m.mem, stat_hBlankStep m.mem, ?_,
    fun b h4 h1 hF => (hBlankStep_onlyPpu s).read (fun _ => hBlankStep_bytes s) hF h1 h4⟩
  · rw [← last]
    exact (hBlankStep_onlyPpu s).eq_of_ppu (hBlankStep_ppu s)
  · refine (if_hBlankStep m.mem).trans (if_congr (or_congr_right (and_congr_left fun _ => ?_)) rfl rfl)
    exact decide_eq_true_iff.symm

/-- Settles O48: the entry work at line 144, then the next line. -/
theorem ppuVBlank : Obligations.PpuVBlank := by
  unfold Obligations.PpuVBlank
  intro s m hp hc hn
  obtain ⟨sF, s1, s4, s5⟩ := s.read_registers
  obtain ⟨tF, t1, t4, -⟩ := (vBlankStep s).read_registers
  refine ⟨_, step_vBlank hp hc hn, ?_⟩
  rw [sF, s1, s5, tF, t1, t4]
  have request := getLsbD_if_vBlankStep m.mem
  intro entry next co
  have isEntry : entry = true ↔ s.ppu.ly = 144 := decide_eq_true_iff
  refine ⟨?_, ly_vBlankStep m.mem, ?_, ?_, fun k hk => ?_, fun k hk => ?_, ?_,
    fun b h4 h1 hF => (vBlankStep_onlyPpu s).read (fun _ => vBlankStep_bytes s) hF h1 h4⟩
  · rw [if_congr isEntry rfl rfl, if_congr isEntry rfl rfl]
    exact (vBlankStep_onlyPpu s).eq_of_ppu (vBlankStep_ppu s)
  · rw [request]
    simp [entry, Bool.or_comm]
  · rw [request]
    change _ = (decide (s.ppu.ly = 144) && _ || decide (s.vBlankNextLine = Memory.read s.mem 0xFF45) && _ || _)
    simp [Bool.or_comm, Bool.or_assoc]
  · rw [request]
    have h0 : k ≠ 0 := by omega
    have h1 : k ≠ 1 := by omega
    simp [h0, h1]
  · rw [stat_vBlankStep m.mem, getLsbD_coincidence]
    by_cases h2 : k = 2
    · rw [if_pos h2, if_pos h2]; rfl
    · rw [if_neg h2, if_neg h2, stat_vBlankEntered m.mem]
      split
      · exact Ppu.getLsbD_stat_upper _ _ (by omega)
      · rfl
  · rw [stat_vBlankStep m.mem, coincidence_mode, stat_vBlankEntered m.mem, if_congr isEntry rfl rfl]
    by_cases h144 : s.ppu.ly = 144
    · rw [if_pos h144, if_pos h144]
      exact Ppu.stat_mode _ _
    · rw [if_neg h144, if_neg h144]

end Sys2Proof.Machine
end

section
/-! SUPPORT. One call of the PPU (R351), the choice of the objects of a line (R359, R361), and the pixel function in
numbers (R360). -/

namespace Sys2Proof.Machine

variable {s t : State}

/-! ### One line a call -/

theorem run_zero (s : State) : Host.Core.run Sys2Proof.core 0 s = .next s := rfl

/-- The PPU's own state decides its next step; the Clock stays with the PPU. -/
theorem State.OnlyPpu.phase (h : s.OnlyPpu t) (hp : s.clock.phase = .ppu) : t.clock.phase = .ppu := by
  rw [h.clock, hp]

/-- Three steps and the end of the call: a visible line (R351). -/
theorem run_visibleLine (hp : s.clock.phase = .ppu) (hc : s.ppu.credit = 228) (hn : s.ppu.nextStep = .oamScan) :
    Host.Core.run Sys2Proof.core 4 s =
      .next ((hBlankStep (pixelTransferStep (oamScanStep s))).setPhase .apu) := by
  have ppu1 := oamScanStep_ppu s
  have ppu2 := pixelTransferStep_ppu (oamScanStep s)
  have ppu3 := hBlankStep_ppu (pixelTransferStep (oamScanStep s))
  have p1 := (oamScanStep_onlyPpu s).phase hp
  have p2 := (pixelTransferStep_onlyPpu _).phase p1
  have p3 := (hBlankStep_onlyPpu _).phase p2
  rw [run_next (step_oamScan hp (by omega) hn),
    run_next (step_pixelTransfer p1 (by rw [ppu1]; show (0 : Int) < s.ppu.credit - 40; omega) (by rw [ppu1])),
    run_next (step_hBlank p2 (by rw [ppu2, ppu1]; show (0 : Int) < s.ppu.credit - 40 - 144; omega) (by rw [ppu2])),
    run_next (step_ppu_spent p3 (by rw [ppu3, ppu2, ppu1]; show s.ppu.credit - 40 - 144 - 44 ≤ (0 : Int); omega)),
    run_zero]

/-- One step and the end of the call: a V-Blank line (R351). -/
theorem run_vBlankLine (hp : s.clock.phase = .ppu) (hc : s.ppu.credit = 228) (hn : s.ppu.nextStep = .vBlank) :
    Host.Core.run Sys2Proof.core 2 s = .next ((vBlankStep s).setPhase .apu) := by
  have ppu1 := vBlankStep_ppu s
  rw [run_next (step_vBlank hp (by omega) hn),
    run_next (step_ppu_spent ((vBlankStep_onlyPpu s).phase hp)
      (by rw [ppu1]; show s.ppu.credit - 228 ≤ (0 : Int); omega)), run_zero]

theorem byte_succ_lt (x : Byte) (h : x.toNat < 144) : ((x + 1).toNat < 144) ↔ x ≠ 143 := by
  have sum : (x + 1).toNat = x.toNat + 1 := toNat_succ (by omega)
  have eq : x = 143 ↔ x.toNat = 143 := ⟨fun e => congrArg BitVec.toNat e, fun e => BitVec.eq_of_toNat_eq e⟩
  rw [ne_eq, eq, sum]
  omega

theorem vBlankNextLine_zero (s : State) : s.vBlankNextLine = 0 ↔ s.ppu.ly = 153 ∨ s.ppu.ly = 255 := by
  unfold State.vBlankNextLine
  by_cases h : s.ppu.ly = 153
  · simp [h]
  · rw [if_neg h]
    have : s.ppu.ly + 1 = 0 ↔ s.ppu.ly = 255 := by bv_omega
    rw [this, or_iff_right h]

/-- Settles O49: the steps of one line use exactly the budget of the call. -/
theorem oneLinePerCall : Obligations.OneLinePerCall := by
  unfold Obligations.OneLinePerCall
  intro s hp hc
  refine ⟨fun hn hl => ⟨_, run_visibleLine hp hc hn, State.setPhase_phase _ _, ?_⟩,
    fun hn => ⟨_, run_vBlankLine hp hc hn, State.setPhase_phase _ _, ?_⟩⟩
  · have only := ((oamScanStep_onlyPpu s).trans (pixelTransferStep_onlyPpu _)).trans (hBlankStep_onlyPpu _)
    rw [State.setPhase_ppu, State.setPhase_cpu, only.cpu, hBlankStep_ppu, pixelTransferStep_ppu, oamScanStep_ppu]
    refine ⟨?_, rfl, rfl, ?_, rfl⟩
    · show s.ppu.credit - 40 - 144 - 44 = 0
      omega
    · show (if (s.ppu.ly + 1).toNat < 144 then PpuStep.oamScan else .vBlank) = _
      rw [if_congr (byte_succ_lt _ hl) rfl rfl, ite_not]
  · rw [State.setPhase_ppu, State.setPhase_cpu, (vBlankStep_onlyPpu s).cpu, vBlankStep_ppu]
    refine ⟨?_, rfl, if_congr (vBlankNextLine_zero s) rfl rfl, rfl⟩
    show s.ppu.credit - 228 = 0
    omega

/-! ### The objects of a line -/

/-- Beyond the first ten of a rising list stand only greater numbers, and only where there are ten before. -/
theorem take_of_notMem {l : List Nat} (sorted : l.Pairwise (· < ·)) {n i : Nat} (hi : i ∈ l) (hn : i ∉ l.take n) :
    (l.take n).length = n ∧ ∀ j ∈ l.take n, j < i := by
  have hdrop : i ∈ l.drop n := by
    rw [← List.take_append_drop n l] at hi
    exact (List.mem_append.mp hi).resolve_left hn
  rw [← List.take_append_drop n l] at sorted
  refine ⟨?_, fun j hj => (List.pairwise_append.mp sorted).2.2 j hj i hdrop⟩
  have := List.length_pos_of_mem hdrop
  rw [List.length_drop] at this
  rw [List.length_take]
  omega

theorem State.objOverlaps_iff (s : State) (ly i : Nat) : s.objOverlaps ly i = true ↔
    (s.oamByte i 0).toNat ≤ ly + 16 ∧ ly + 16 < (s.oamByte i 0).toNat + s.objHeight := by
  simp only [State.objOverlaps, Bool.and_eq_true, decide_eq_true_iff]

theorem paletteShade_eq (pal : Byte) (ci : Nat) : paletteShade pal ci = pal.toNat / 4 ^ ci % 4 := by
  rw [paletteShade, Nat.pow_mul]

theorem State.objectShade_transparent (s : State) {x ly bgci shade i : Nat} (h : s.objColour x ly i = 0)
    (rest : List Nat) : s.objectShade x ly bgci shade (i :: rest) = s.objectShade x ly bgci shade rest := if_pos h

theorem State.objectShade_opaque (s : State) {x ly bgci shade i : Nat} (h : s.objColour x ly i ≠ 0)
    (rest : List Nat) : s.objectShade x ly bgci shade (i :: rest) =
      if (s.oamByte i 3).getLsbD 7 = true ∧ bgci ≠ 0 then shade
      else (if (s.oamByte i 3).getLsbD 4 = true then s.read 0xFF49 else s.read 0xFF48).toNat /
        4 ^ s.objColour x ly i % 4 := by
  refine (if_neg h).trans (if_congr ?_ rfl (paletteShade_eq _ _))
  rw [Bool.and_eq_true, decide_eq_true_iff]

theorem State.objectShade_front (s : State) {x ly bgci shade : Nat} {front : List Nat}
    (h : ∀ j ∈ front, s.objColour x ly j = 0) (back : List Nat) :
    s.objectShade x ly bgci shade (front ++ back) = s.objectShade x ly bgci shade back := by
  induction front with
  | nil => rfl
  | cons i front ih =>
    rw [List.cons_append, s.objectShade_transparent (h i List.mem_cons_self)]
    exact ih fun j hj => h j (List.mem_cons_of_mem i hj)

/-- Settles O50: the selection is the start of a rising list, and the transparent objects in front are passed over. -/
theorem objectPriority : Obligations.ObjectPriority := by
  unfold Obligations.ObjectPriority
  intro s x ly bgci shade
  have sorted : ((List.range 40).filter (s.objOverlaps ly)).Pairwise (· < ·) := List.pairwise_lt_range.filter _
  refine ⟨⟨List.length_take_le _ _, sorted.sublist (List.take_sublist _ _), fun i hi => ?_, fun i hi ho hn => ?_⟩,
    fun l hl => ?_, fun front i back hf ho => ?_⟩
  · obtain ⟨hr, ho⟩ := List.mem_filter.mp (List.mem_of_mem_take hi)
    exact ⟨List.mem_range.mp hr, (s.objOverlaps_iff ly i).mp ho⟩
  · exact take_of_notMem sorted (List.mem_filter.mpr ⟨List.mem_range.mpr hi, (s.objOverlaps_iff ly i).mpr ho⟩) hn
  · have := s.objectShade_front (bgci := bgci) (shade := shade) hl []
    rwa [List.append_nil] at this
  · rw [s.objectShade_front hf, s.objectShade_opaque ho]

/-! ### The pixel function -/

/-- A bit of a byte as arithmetic. -/
theorem getLsbD_toNat (v : Byte) (b : Nat) : (v.getLsbD b).toNat = v.toNat / 2 ^ b % 2 := by
  rw [BitVec.getLsbD, Nat.testBit_eq_decide_div_mod_eq]
  have := Nat.mod_lt (v.toNat / 2 ^ b) (show 0 < 2 by decide)
  by_cases h : v.toNat / 2 ^ b % 2 = 1
  · rw [decide_eq_true h, h]; rfl
  · rw [decide_eq_false h]
    show 0 = _
    omega

theorem getLsbD_iff (v : Byte) (b : Nat) : v.getLsbD b = true ↔ v.toNat / 2 ^ b % 2 = 1 := by
  rw [BitVec.getLsbD, Nat.testBit_eq_decide_div_mod_eq, decide_eq_true_iff]

theorem getLsbD_not_iff (v : Byte) (b : Nat) : (!v.getLsbD b) = true ↔ v.toNat / 2 ^ b % 2 = 0 := by
  rw [Bool.not_eq_true', Bool.eq_false_iff, ne_eq, getLsbD_iff]
  omega

/-- A bit of the bus byte at a computed address, as a number. -/
def State.bitAt (s : State) (a b : Nat) : Nat := (s.at a).toNat / 2 ^ b % 2

/-- The colour of a tile's row, by its address, at a column (R360). -/
def State.tilePixel (s : State) (row col : Nat) : Nat := 2 * s.bitAt (row + 1) (7 - col) + s.bitAt row (7 - col)

/-- Where the map's tiles stand: unsigned from 0x8000 with `LCDC` bit 4 set, else signed from 0x9000 (R360). -/
def State.mapTile (s : State) (idx : Nat) : Nat :=
  if s.bitAt 0xFF40 4 = 1 then 0x8000 + 16 * idx else if idx < 128 then 0x9000 + 16 * idx else 0x8000 + 16 * idx

/-- The colour of a pixel of the map that bit `mapBit` of `LCDC` selects (R360). -/
def State.mapPixel (s : State) (mapBit px py : Nat) : Nat :=
  s.tilePixel (s.mapTile (s.at ((if s.bitAt 0xFF40 mapBit = 1 then 0x9C00 else 0x9800) +
    32 * (py / 8) + px / 8)).toNat + 2 * (py % 8)) (px % 8)

/-- `LCDC` as the byte at its address. -/
theorem State.lcdc_iff (s : State) (b : Nat) : (s.read 0xFF40).getLsbD b = true ↔ s.bitAt 0xFF40 b = 1 :=
  getLsbD_iff _ b

theorem State.lcdc_not_iff (s : State) (b : Nat) : (!(s.read 0xFF40).getLsbD b) = true ↔ s.bitAt 0xFF40 b = 0 :=
  getLsbD_not_iff _ b

theorem colour_eq (s : State) (a col : Nat) : colour (s.at a, s.at (a + 1)) col = s.tilePixel a col := by
  rw [colour, getLsbD_toNat, getLsbD_toNat]
  rfl

theorem State.tileLine_unsigned (s : State) (idx : Byte) (row col : Nat) :
    colour (s.tileLine true idx row) col = s.tilePixel (0x8000 + 16 * idx.toNat + 2 * row) col :=
  colour_eq s _ _

/-- A tile row's address in the map's addressing (R360). -/
theorem State.tileLine_map (s : State) (idx : Byte) (row col : Nat) :
    colour (s.tileLine ((s.read 0xFF40).getLsbD 4) idx row) col = s.tilePixel (s.mapTile idx.toNat + 2 * row) col := by
  have signed : ((0x9000 : Int) + 16 * idx.toInt).toNat = if idx.toNat < 128 then 0x9000 + 16 * idx.toNat
      else 0x8000 + 16 * idx.toNat := by
    have := idx.isLt
    rw [BitVec.toInt_eq_toNat_cond]
    split <;> split <;> omega
  unfold State.tileLine
  dsimp only
  rw [colour_eq s, signed, State.mapTile, if_congr (s.lcdc_iff 4) rfl rfl]

theorem State.mapColour_eq (s : State) (b px py : Nat) :
    s.mapColour ((s.read 0xFF40).getLsbD b) px py = s.mapPixel b px py := by
  unfold State.mapColour State.mapPixel
  dsimp only
  rw [s.tileLine_map, if_congr (s.lcdc_iff b) rfl rfl]

theorem State.windowAt_iff (s : State) (x ly : Nat) : s.windowAt x ly = true ↔
    s.bitAt 0xFF40 5 = 1 ∧ (s.at 0xFF4A).toNat ≤ ly ∧ (s.at 0xFF4B).toNat ≤ x + 7 := by
  rw [State.windowAt, Bool.and_eq_true, Bool.and_eq_true, s.lcdc_iff, decide_eq_true_iff, decide_eq_true_iff, and_assoc]
  rfl

theorem State.backgroundColour_eq (s : State) (x ly : Nat) : s.backgroundColour x ly =
    if s.bitAt 0xFF40 0 = 0 then 0
    else if s.bitAt 0xFF40 5 = 1 ∧ (s.at 0xFF4A).toNat ≤ ly ∧ (s.at 0xFF4B).toNat ≤ x + 7
      then s.mapPixel 6 (x + 7 - (s.at 0xFF4B).toNat) (ly - (s.at 0xFF4A).toNat)
      else s.mapPixel 3 ((x + (s.at 0xFF43).toNat) % 256) ((ly + (s.at 0xFF42).toNat) % 256) := by
  unfold State.backgroundColour
  dsimp only
  rw [s.mapColour_eq, s.mapColour_eq]
  exact if_congr (s.lcdc_not_iff 0) rfl (if_congr (s.windowAt_iff x ly) rfl rfl)

theorem State.backgroundShade_eq (s : State) (x ly : Nat) : s.backgroundShade x ly =
    if s.bitAt 0xFF40 0 = 0 then 0 else (s.at 0xFF47).toNat / 4 ^ s.backgroundColour x ly % 4 :=
  if_congr (s.lcdc_not_iff 0) rfl (paletteShade_eq _ _)

theorem State.objHeight_eq (s : State) : s.objHeight = if s.bitAt 0xFF40 2 = 1 then 16 else 8 :=
  if_congr (s.lcdc_iff 2) rfl rfl

/-- The even tile of a pair (R360). -/
theorem evenTile (x : Byte) : (x &&& 0xFE).toNat = x.toNat / 2 * 2 := by
  have shifts : x &&& (0xFE : Byte) = (x >>> 1) <<< 1 := by
    refine BitVec.eq_of_getLsbD_eq fun k hk => ?_
    simp only [BitVec.getLsbD_and, BitVec.getLsbD_shiftLeft, BitVec.getLsbD_ushiftRight]
    interval_cases k <;> simp
  have := x.isLt
  rw [shifts, BitVec.toNat_shiftLeft, BitVec.toNat_ushiftRight, Nat.shiftLeft_eq, Nat.shiftRight_eq_div_pow, Nat.pow_one]
  exact Nat.mod_eq_of_lt (by omega)

/-- What an object shows at a column (R360). -/
theorem State.objColour_eq (s : State) (x ly i : Nat) : s.objColour x ly i =
    if (s.oamByte i 1).toNat ≤ x + 8 ∧ x + 8 < (s.oamByte i 1).toNat + 8 then
      s.tilePixel
        (0x8000 + 16 * (if s.objHeight = 16 then (s.oamByte i 2).toNat / 2 * 2 else (s.oamByte i 2).toNat) +
          2 * (if (s.oamByte i 3).toNat / 2 ^ 6 % 2 = 1 then s.objHeight - 1 - (ly + 16 - (s.oamByte i 0).toNat)
            else ly + 16 - (s.oamByte i 0).toNat))
        (if (s.oamByte i 3).toNat / 2 ^ 5 % 2 = 1 then 7 - (x + 8 - (s.oamByte i 1).toNat)
          else x + 8 - (s.oamByte i 1).toNat)
    else 0 := by
  unfold State.objColour
  dsimp only
  rw [s.tileLine_unsigned, if_congr (getLsbD_iff _ 5) rfl rfl, if_congr (getLsbD_iff _ 6) rfl rfl]
  refine if_congr ?_ ?_ rfl
  · rw [Bool.and_eq_true, decide_eq_true_iff, decide_eq_true_iff]
  · rw [apply_ite BitVec.toNat, evenTile]

theorem State.pixel_eq (s : State) (x ly : Nat) : s.pixel x ly =
    if s.bitAt 0xFF40 1 = 0 then s.backgroundShade x ly
    else s.objectShade x ly (s.backgroundColour x ly) (s.backgroundShade x ly) (s.selected ly) := by
  have set := s.lcdc_iff 1
  have clear := s.lcdc_not_iff 1
  unfold State.pixel
  dsimp only
  cases h : (s.read 0xFF40).getLsbD 1 with
  | false => rw [if_neg (by decide), if_pos (clear.mp (by rw [h]; rfl))]
  | true => rw [if_pos rfl, if_neg (by rw [set.mp h]; decide)]

/-- Settles O60: each part of the pixel function in numbers. -/
theorem pixelFunction : Obligations.PixelFunction := by
  unfold Obligations.PixelFunction
  intro s x ly
  refine ⟨s.objHeight_eq, fun i => ?_, ?_⟩
  · rw [s.objColour_eq, s.objHeight_eq]
    rfl
  · rw [s.pixel_eq, s.backgroundShade_eq, s.backgroundColour_eq]
    rfl

end Sys2Proof.Machine
end

section
/-! SUPPORT. What every step keeps of memory, of the Cartridges and of the devices (R42, R89, R92, R97, R420): each unit's
turn keeps it, and so do the host's operations. -/

namespace Sys2Proof.Machine

variable {s t : State} {a : Word} {v : Byte}

/-! ### What the turns of the units leave alone -/

/-- `t` has the memories, Cartridges, parameters and coming operations of `s`. -/
structure State.SameStores (s t : State) : Prop where
  bios : t.bios = s.bios
  cart : t.cart = s.cart
  shelf : t.shelf = s.shelf
  params : t.params = s.params
  input : t.hostInput = s.hostInput

theorem State.OnlyPpu.sameStores (h : s.OnlyPpu t) : s.SameStores t := by
  constructor <;> rw [h]

theorem State.OnlyTimer.sameStores (h : s.OnlyTimer t) : s.SameStores t := by
  constructor <;> rw [h]

theorem ppuTurn_sameStores (s : State) : s.SameStores (ppuTurn s) := by
  unfold ppuTurn
  split
  · exact ⟨rfl, rfl, rfl, rfl, rfl⟩
  · exact (ppuStep_onlyPpu s).sameStores

theorem apuTurn_sameStores (s : State) : s.SameStores (apuTurn s) := by
  unfold apuTurn State.setPhase
  exact ⟨rfl, rfl, rfl, rfl, rfl⟩

theorem timerUnit_sameStores (s : State) (n : Nat) : s.SameStores ((timerUnit s).setPhase (.timer n)) := by
  have only := timerUnit_onlyTimer s
  constructor
  · show (timerUnit s).bios = _; rw [only]
  · show (timerUnit s).cart = _; rw [only]
  · show (timerUnit s).shelf = _; rw [only]
  · show (timerUnit s).params = _; rw [only]
  · show (timerUnit s).hostInput = _; rw [only]

theorem apuTurn_kept (s : State) : (apuTurn s).mem = s.mem ∧ (apuTurn s).dmaQueue = s.dmaQueue ∧
    (apuTurn s).timer = s.timer ∧ (apuTurn s).ppu = s.ppu ∧ (apuTurn s).cpu = s.cpu := by
  unfold apuTurn State.setPhase
  exact ⟨rfl, rfl, rfl, rfl, rfl⟩

/-- What `MemoryInv` speaks of, by parts. -/
theorem State.MemoryInv.of_sameStores (m : s.MemoryInv) (h : s.SameStores t) (wf : Memory.wf t.mem = true) :
    t.MemoryInv :=
  ⟨wf, h.bios ▸ m.bios, fun c e => m.cart c (h.cart ▸ e), h.input ▸ m.input, h.shelf ▸ m.shelf⟩

theorem State.CartInv.of_sameStores (k : s.CartInv) (h : s.SameStores t) : t.CartInv := by
  intro c hc
  rw [h.cart, h.shelf] at hc
  rw [h.params]
  exact k c hc

/-- A turn of the DMA sequencer is a published store beside its queue and the Clock, or enters the PPU. -/
theorem dmaTurn_cases {n : Nat} (h : dmaTurn n s = .next t) : t = enterPpu s ∨
    ∃ c rest m, s.dmaQueue = c :: rest ∧ (State.setPhase { s with dmaQueue := rest } (.mmu m)).Moves t :=
  (dmaTurn_next h).imp_right fun ⟨m, c, rest, _, hq, h⟩ => ⟨c, rest, m, hq, State.Moves.writeByte h⟩

theorem enterCpu_sameStores (s : State) : s.SameStores s.enterCpu := ⟨rfl, rfl, rfl, rfl, rfl⟩

theorem enterPpu_sameStores (s : State) : s.SameStores (enterPpu s) := by
  rw [enterPpu_eq]
  exact ⟨rfl, rfl, rfl, rfl, rfl⟩

/-! ### The host's Cartridges -/

/-- Every Cartridge that can be put into the slot. -/
def State.Owns (s : State) (c : Cartridge) : Prop := s.cart = some c ∨ c ∈ s.shelf

/-- A built Cartridge: its image with empty RAM and the registers at their first values (R85, R92). -/
theorem Cartridge.build_some {len : Nat} {rom : List Host.Cell} {c : Cartridge} (h : Cartridge.build len rom = some c) :
    0x8000 ≤ len ∧ c = { kind := c.kind, romLength := len, rom := rom, ram := [], ramEnable := false, romLow := 1,
                         hi2 := 0, ramBank := 0, mode := false } := by
  unfold Cartridge.build at h
  dsimp only at h
  generalize (if Memory.read rom 0x0147 = 0 then CartKind.mbc0
    else if (Memory.read rom 0x0147).toNat ≤ 3 then .mbc1 else .inert) = kind at h
  split at h
  · cases h
  · next hlen =>
    cases h
    simp only [Bool.or_eq_true, decide_eq_true_iff, not_or] at hlen
    exact ⟨by omega, rfl⟩

/-- An operation of the host adds no Cartridge but one it builds. -/
theorem hostAction_owns {x : HostAction} (h : hostAction x s = .next t) {c : Cartridge} (hc : t.Owns c) :
    s.Owns c ∨ ∃ len rom, x = .insert len rom ∧ Cartridge.build len rom = some c := by
  have ejected {d : Cartridge} : d ∈ s.shelf ++ s.cart.toList → s.Owns d := fun hd =>
    (List.mem_append.mp hd).elim .inr fun hd => .inl (Option.mem_toList.mp hd)
  cases x with
  | joypad v => rw [hostAction_joypad] at h; cases h; exact .inl hc
  | joypadRequest => rw [hostAction_joypadRequest] at h; cases h; exact .inl hc
  | reinsert => cases h; exact .inl hc
  | insert len rom =>
    obtain ⟨d, l, hd, rfl⟩ := insertRom_next h
    rcases hc with hc | hc
    · cases hc; exact .inr ⟨len, rom, rfl, hd⟩
    · exact .inl (ejected hc)
  | putBack k =>
    cases h
    cases e : s.shelf[k]? with
    | none => rw [State.putBack_none e] at hc; exact .inl hc
    | some d =>
      rw [State.putBack_some e] at hc
      rcases hc with hc | hc
      · cases hc; exact .inl (.inr (List.mem_of_getElem? e))
      · rcases List.mem_append.mp hc with hc | hc
        · exact .inl (.inr (List.mem_of_mem_eraseIdx hc))
        · exact .inl (.inl (Option.mem_toList.mp hc))

/-- What the host's operations keep, they keep in any number. -/
theorem hostActions_keep {P : State → Prop} {ok : HostAction → Prop}
    (keep : ∀ {x : HostAction} {s t : State}, ok x → P s → hostAction x s = .next t → P t) {xs : List HostAction}
    (hok : ∀ x ∈ xs, ok x) (hs : P s) (h : hostActions xs s = .next t) : P t := by
  induction xs generalizing s with
  | nil => cases h; exact hs
  | cons x xs ih =>
    obtain ⟨u, hx, hrest⟩ := andThen_next.mp h
    exact ih (fun y hy => hok y (List.mem_cons_of_mem x hy)) (keep (hok x List.mem_cons_self) hs hx) hrest

/-- The end of a slice moves the Clock on and, after a frame, has the host act. -/
theorem endSlice_cases (hp : s.clock.phase = .timer 0) (h : step s = .next t) :
    t = { s with clock := { phase := .cpuCall, slice := (s.clock.slice + 1) % 154 } } ∨
    (s.clock.slice + 1) % 154 = 0 ∧ hostActions (s.hostInput.headD [])
      { s with clock := { phase := .cpuCall, slice := (s.clock.slice + 1) % 154 }, hostInput := s.hostInput.tail } =
      .next t := by
  rw [step_endSlice hp] at h
  by_cases hf : (s.clock.slice + 1) % 154 = 0
  · rw [if_pos hf] at h; exact .inr ⟨hf, h⟩
  · rw [if_neg hf] at h; exact .inl (Host.Outcome.next.inj h).symm

/-- Every step, by the unit whose turn it is. -/
theorem step_units (h : step s = .next t) :
    (s.clock.phase = .cpuCall ∧ cpuTurn s.enterCpu = .next t) ∨ (s.clock.phase = .cpu ∧ cpuTurn s = .next t) ∨
    (∃ n, s.clock.phase = .mmu n ∧ dmaTurn n s = .next t) ∨ (s.clock.phase = .ppu ∧ t = ppuTurn s) ∨
    (s.clock.phase = .apu ∧ t = apuTurn s) ∨ (∃ n, s.clock.phase = .timer (n + 1) ∧
      t = (timerUnit s).setPhase (.timer n)) ∨ s.clock.phase = .timer 0 := by
  cases hp : s.clock.phase with
  | cpuCall => rw [step, hp] at h; exact .inl ⟨rfl, h⟩
  | cpu => rw [step, hp] at h; exact .inr (.inl ⟨rfl, h⟩)
  | mmu n => rw [step_mmu hp] at h; exact .inr (.inr (.inl ⟨n, rfl, h⟩))
  | ppu => rw [step, hp] at h; exact .inr (.inr (.inr (.inl ⟨rfl, (Host.Outcome.next.inj h).symm⟩)))
  | apu => rw [step_apu hp] at h; exact .inr (.inr (.inr (.inr (.inl ⟨rfl, (Host.Outcome.next.inj h).symm⟩))))
  | timer left =>
    cases left with
    | zero => exact .inr (.inr (.inr (.inr (.inr (.inr rfl)))))
    | succ n =>
      rw [step_timer hp] at h
      exact .inr (.inr (.inr (.inr (.inr (.inl ⟨n, rfl, (Host.Outcome.next.inj h).symm⟩)))))

/-! ### Memory -/

theorem ppuStep_wf (h : Memory.wf s.mem = true) : Memory.wf (ppuStep s).mem = true := by
  unfold ppuStep
  cases s.ppu.nextStep with
  | oamScan => exact State.statRequestIf_wf (State.setMode_wf h _) _
  | pixelTransfer => exact State.setMode_wf h _
  | hBlank =>
    show Memory.wf (hBlankStep s).mem = true
    rw [hBlankStep_eq, State.ppuNext_mem]
    exact (State.onlyRegisters_setLy _ _).wf (State.hBlankEntered_wf h)
  | vBlank =>
    show Memory.wf (vBlankStep s).mem = true
    rw [vBlankStep_eq, State.ppuNext_mem]
    exact (State.onlyRegisters_setLy _ _).wf (vBlankEntered_wf h)

theorem ppuTurn_wf (h : Memory.wf s.mem = true) : Memory.wf (ppuTurn s).mem = true := by
  unfold ppuTurn
  split
  · exact h
  · exact ppuStep_wf h

theorem timerUnit_wf (h : Memory.wf s.mem = true) : Memory.wf (timerUnit s).mem = true := by
  have h' := divUnit_wf h
  unfold timerUnit
  rw [timaUnit_eq]
  split
  · exact timaTick_wf h'
  · exact h'

theorem hostAction_memoryInv {x : HostAction} (ok : x.canonical = true) (m : s.MemoryInv)
    (h : hostAction x s = .next t) : t.MemoryInv := by
  obtain ⟨input, -, bios⟩ := hostAction_kept h
  have owned {c : Cartridge} (hc : t.Owns c) : Memory.wf c.rom = true ∧ Memory.wf c.ram = true := by
    rcases hostAction_owns h hc with hc | ⟨len, rom, rfl, hb⟩
    · exact hc.elim (m.cart c) (m.shelf c)
    · rw [(Cartridge.build_some hb).2]
      exact ⟨ok, rfl⟩
  have wf : Memory.wf t.mem = true := by
    rcases hostAction_next h with ⟨a, v, rfl⟩ | rfl | ⟨u, c, l, rfl, -⟩
    · exact (m.quiet a v).mem
    · exact m.mem
    · rfl
  exact ⟨wf, bios ▸ m.bios, fun c e => owned (.inl e), input ▸ m.input, fun c e => owned (.inr e)⟩

theorem cpuTurn_memoryInv (m : s.MemoryInv) (h : cpuTurn s = .next t) : t.MemoryInv := by
  rcases cpuTurn_next h with ⟨-, rfl⟩ | ⟨-, h⟩
  · exact m.of_sameStores ⟨rfl, rfl, rfl, rfl, rfl⟩ m.mem
  · exact h.memoryInv m

/-- Settles O56: every unit's writes keep the canonical form, and so do the host's images. -/
theorem stepKeepsMemoryCanonical : Obligations.StepKeepsMemoryCanonical := by
  unfold Obligations.StepKeepsMemoryCanonical
  intro s t m h
  rcases step_units h with ⟨-, h⟩ | ⟨-, h⟩ | ⟨n, -, h⟩ | ⟨-, e⟩ | ⟨-, e⟩ | ⟨n, -, e⟩ | hp
  · exact cpuTurn_memoryInv (m.of_sameStores (enterCpu_sameStores s) m.mem) h
  · exact cpuTurn_memoryInv m h
  · rcases dmaTurn_cases h with rfl | ⟨c, rest, k, -, h⟩
    · exact m.of_sameStores (enterPpu_sameStores s) (by rw [enterPpu_eq]; exact m.mem)
    · exact h.memoryInv (m.of_sameStores ⟨rfl, rfl, rfl, rfl, rfl⟩ m.mem)
  · rw [e]
    exact m.of_sameStores (ppuTurn_sameStores s) (ppuTurn_wf m.mem)
  · rw [e]
    refine m.of_sameStores (apuTurn_sameStores s) ?_
    rw [(apuTurn_kept s).1]
    exact m.mem
  · rw [e]
    exact m.of_sameStores (timerUnit_sameStores s n) (timerUnit_wf m.mem)
  · rcases endSlice_cases hp h with rfl | ⟨-, h⟩
    · exact m.of_sameStores ⟨rfl, rfl, rfl, rfl, rfl⟩ m.mem
    · cases hi : s.hostInput with
      | nil =>
        rw [hi] at h
        cases h
        exact ⟨m.mem, m.bios, m.cart, nofun, m.shelf⟩
      | cons xs rest =>
        have input := m.input
        rw [hi] at h input
        refine hostActions_keep (ok := fun x => x.canonical = true) hostAction_memoryInv
          (input xs List.mem_cons_self) ?_ h
        exact ⟨m.mem, m.bios, m.cart, fun ys hy => input ys (List.mem_cons_of_mem xs hy), m.shelf⟩

/-! ### Cartridges -/

/-- What a published store makes of the Cartridge: other bytes of RAM, or a register moved. -/
theorem State.written_cart_cases {d : Cartridge} (h : (s.written a v).cart = some d) :
    ∃ c, s.cart = some c ∧ (d = { c with ram := d.ram } ∨ d = c.select a.toNat v) := by
  by_cases ha : a.toNat ≤ 0x7FFF
  · rcases s.written_cart_low v ha with e | ⟨c, hc, e⟩
    · exact ⟨d, e ▸ h, .inl rfl⟩
    · exact ⟨c, hc, .inr (Option.some.inj (h.symm.trans e))⟩
  · rw [State.written, State.subscribers_cart, State.quiet_eq_placeWrite (.inl (by omega))] at h
    unfold State.placeWrite at h
    split at h
    · split at h
      · next c hc => cases h; exact ⟨c, hc, .inl rfl⟩
      · exact ⟨d, h, .inl rfl⟩
    · unfold State.ramWrite at h
      split at h <;> exact ⟨d, h, .inl rfl⟩
    · exact ⟨d, h, .inl rfl⟩

theorem Cartridge.Inv.select {c : Cartridge} (h : c.Inv) (n : Nat) (v : Byte) : (c.select n v).Inv := by
  obtain ⟨long, low⟩ := h
  refine ⟨(c.select_romLength n v).symm ▸ long, fun hk => ?_⟩
  rw [c.select_kind] at hk
  by_cases rom : 0x2000 ≤ n ∧ n ≤ 0x3FFF
  · rw [Cartridge.select_romLow hk rom.1 rom.2]
    intro e
    have zero := congrArg BitVec.toNat e
    dsimp only at zero
    rw [BitVec.toNat_ofNat] at zero
    split at zero
    · cases zero
    · have : (0 : BitVec 5).toNat = 0 := rfl
      omega
  · have same : (c.select n v).romLow = c.romLow := by
      unfold Cartridge.select
      rw [hk]
      dsimp only
      split
      · rfl
      · split
        · exact absurd ⟨by omega, by omega⟩ rom
        · repeat' split
          all_goals rfl
    rw [same]
    exact low hk

/-- A store after which the registers are in range selects banks that exist (R92). -/
theorem Cartridge.BanksExist.select {c : Cartridge} (h : c.BanksExist) {n : Nat} {v : Byte}
    (inRange : (c.select n v).outOfRange n = false) : (c.select n v).BanksExist := by
  intro hk
  have hk' : c.kind = .mbc1 := c.select_kind n v ▸ hk
  by_cases bank : 0x2000 ≤ n ∧ n ≤ 0x7FFF
  · have := mt (Cartridge.outOfRange_iff _ _).mpr (by rw [inRange]; decide)
    simp only [not_and, not_or, Nat.not_le] at this
    exact this hk bank.1 bank.2
  · by_cases low : n ≤ 0x1FFF
    · rw [Cartridge.select_ramEnable hk' low]
      exact h hk'
    · rw [c.select_high (by omega)]
      exact h hk'

theorem State.CartInv.written (k : s.CartInv) (ok : s.writeFault a v = none) : (s.written a v).CartInv := by
  intro d hd
  rw [State.written_params]
  rcases hd with hd | hd
  · obtain ⟨c, hc, e | rfl⟩ := State.written_cart_cases hd
    · rw [e]
      exact k c (.inl hc)
    · obtain ⟨inv, banks⟩ := k c (.inl hc)
      refine ⟨inv.select _ _, fun hp => (banks hp).select (Bool.eq_false_iff.mpr fun out => ?_)⟩
      obtain ⟨hk, low, high, -⟩ := (Cartridge.outOfRange_iff _ _).mp out
      rw [c.select_kind] at hk
      have fault := State.writeFault_some.mpr ⟨hp, State.resolve_mbc1 hc hk low high, c, hc, out, rfl⟩
      rw [ok] at fault
      cases fault
  · rw [State.written_shelf] at hd
    exact k d (.inr hd)

theorem State.Moves.cartInv (h : s.Moves t) (k : s.CartInv) : t.CartInv := by
  induction h with
  | refl => exact k
  | cpu _ _ ih => exact ih
  | store a v _ ok ih => exact ih.written ok

/-- A Cartridge as built selects banks that exist. -/
theorem Cartridge.inv_build {len : Nat} {rom : List Host.Cell} {c : Cartridge} (h : Cartridge.build len rom = some c) :
    c.Inv ∧ c.BanksExist := by
  obtain ⟨long, e⟩ := Cartridge.build_some h
  rw [e]
  refine ⟨⟨long, fun _ => (by decide : (1 : BitVec 5) ≠ 0)⟩, fun _ => ⟨?_, ?_⟩⟩
  · show 0 < len / 0x4000 - 1
    omega
  · rw [Cartridge.ramBanks_eq]
    show 0 < _
    split <;> decide

theorem hostAction_cartInv {x : HostAction} (k : s.CartInv) (h : hostAction x s = .next t) : t.CartInv := by
  obtain ⟨-, params, -⟩ := hostAction_kept h
  intro c hc
  rw [params]
  rcases hostAction_owns h hc with hc | ⟨len, rom, -, hb⟩
  · exact k c hc
  · obtain ⟨inv, banks⟩ := Cartridge.inv_build hb
    exact ⟨inv, fun _ => banks⟩

theorem cpuTurn_cartInv (k : s.CartInv) (h : cpuTurn s = .next t) : t.CartInv := by
  rcases cpuTurn_next h with ⟨-, rfl⟩ | ⟨-, h⟩
  · exact k
  · exact h.cartInv k

theorem step_cartInv (k : s.CartInv) (h : step s = .next t) : t.CartInv := by
  rcases step_units h with ⟨-, h⟩ | ⟨-, h⟩ | ⟨n, -, h⟩ | ⟨-, e⟩ | ⟨-, e⟩ | ⟨n, -, e⟩ | hp
  · exact cpuTurn_cartInv (k.of_sameStores (enterCpu_sameStores s)) h
  · exact cpuTurn_cartInv k h
  · rcases dmaTurn_cases h with rfl | ⟨c, rest, m, -, h⟩
    · exact k.of_sameStores (enterPpu_sameStores s)
    · exact h.cartInv (k.of_sameStores ⟨rfl, rfl, rfl, rfl, rfl⟩)
  · exact e ▸ k.of_sameStores (ppuTurn_sameStores s)
  · exact e ▸ k.of_sameStores (apuTurn_sameStores s)
  · exact e ▸ k.of_sameStores (timerUnit_sameStores s n)
  · rcases endSlice_cases hp h with rfl | ⟨-, h⟩
    · exact k.of_sameStores ⟨rfl, rfl, rfl, rfl, rfl⟩
    · refine hostActions_keep (ok := fun _ => True) (fun _ => hostAction_cartInv) (fun _ _ => trivial) ?_ h
      exact k

/-! ### Devices -/

/-- The devices' own ranges speak of three parts of the state. -/
theorem State.DeviceInv.of_eq (d : s.DeviceInv) (hq : t.dmaQueue = s.dmaQueue) (ht : t.timer = s.timer)
    (hc : t.clock.slice = s.clock.slice) : t.DeviceInv :=
  ⟨hq ▸ d.dma, ht ▸ d.divAcc, ht ▸ d.timaAcc, hc ▸ d.slice⟩

theorem State.startDma_aims (d : ∀ c ∈ s.dmaQueue, 0xFE00 ≤ c.dst.toNat ∧ c.dst.toNat ≤ 0xFE9F) (v : Byte) :
    ∀ c ∈ (s.startDma v).dmaQueue, 0xFE00 ≤ c.dst.toNat ∧ c.dst.toNat ≤ 0xFE9F := by
  intro c hc
  rcases List.mem_append.mp hc with hc | hc
  · exact d c hc
  · obtain ⟨i, hi, rfl⟩ := List.mem_map.mp hc
    have hi := List.mem_range.mp hi
    rw [DmaCopy.nth]
    have : (BitVec.ofNat 16 (0xFE00 + i)).toNat = 0xFE00 + i := Nat.mod_eq_of_lt (by omega)
    dsimp only
    omega

theorem State.DeviceInv.subscribers (d : s.DeviceInv) (a : Word) (v : Byte) : (s.subscribers a v).DeviceInv := by
  rcases s.subscribers_cases a v with e | ⟨-, -, e⟩ | ⟨-, e⟩ | ⟨-, e⟩ | ⟨-, -, e⟩ | ⟨-, e⟩ | ⟨-, e⟩ | ⟨-, e⟩ <;> rw [e]
  · exact d
  · exact d.of_eq rfl rfl rfl
  · exact ⟨State.startDma_aims d.dma v, d.divAcc, d.timaAcc, d.slice⟩
  · rw [State.resetDivider, s.quiet_at 0xFF04 rfl (by decide) (by decide)]
    exact ⟨d.dma, Nat.zero_le 15, d.timaAcc, d.slice⟩
  · exact d.of_eq rfl rfl rfl
  · rcases s.lcdControl_cases v with ⟨-, -, e⟩ | ⟨-, -, e⟩ | ⟨-, e⟩ <;> rw [e]
    · have only := s.lcdOff_onlyRegisters
      exact d.of_eq (t := s.lcdOff) only.dmaQueue only.timer (congrArg Clock.slice only.clock)
    · exact d.of_eq rfl rfl rfl
    · exact d
  · rw [State.statWrite, s.quiet_at 0xFF41 rfl (by decide) (by decide)]
    exact d.of_eq rfl rfl rfl
  · have only := s.onlyRegisters_coincidenceUpdate
    exact d.of_eq only.dmaQueue only.timer (congrArg Clock.slice only.clock)

theorem State.DeviceInv.written (d : s.DeviceInv) (a : Word) (v : Byte) : (s.written a v).DeviceInv :=
  State.DeviceInv.subscribers
    (d.of_eq (s.quiet_dmaQueue a v) (s.quiet_timer a v) (congrArg Clock.slice (s.quiet_clock a v))) a v

theorem State.Moves.deviceInv (h : s.Moves t) (d : s.DeviceInv) : t.DeviceInv := by
  induction h with
  | refl => exact d
  | cpu _ _ ih => exact ih.of_eq rfl rfl rfl
  | store a v _ _ ih => exact ih.written a v

theorem threshold_le (tac : Byte) : threshold tac ≤ 64 := by
  unfold threshold
  split <;> decide

/-- The accumulators start again where they reach their periods (R42, R342, R343). -/
theorem timerUnit_deviceInv (d : s.DeviceInv) : (timerUnit s).timer.divAcc ≤ 15 ∧ (timerUnit s).timer.timaAcc < 64 := by
  have div : (divUnit s).timer = _ := congrArg State.timer (divUnit_eq s)
  have timer : (timerUnit s).timer = _ := timaUnit_timer (divUnit s)
  have divAcc := d.divAcc
  have timaAcc := d.timaAcc
  rw [timer]
  refine ⟨?_, ?_⟩
  · rw [div]
    dsimp only
    split <;> omega
  · dsimp only
    split
    · decide
    · next slow =>
      split
      · next on =>
        rw [State.timaTicks, on, Bool.true_and, decide_eq_true_iff] at slow
        have := threshold_le (Memory.read (divUnit s).mem 0xFF07)
        omega
      · rw [div]
        exact timaAcc

theorem hostAction_deviceInv {x : HostAction} (d : s.DeviceInv) (h : hostAction x s = .next t) : t.DeviceInv := by
  rcases hostAction_next h with ⟨a, v, rfl⟩ | rfl | ⟨u, c, l, rfl, -⟩
  · exact d.of_eq (s.quiet_dmaQueue a v) (s.quiet_timer a v) (congrArg Clock.slice (s.quiet_clock a v))
  · exact d
  · exact ⟨nofun, Nat.zero_le 15, (by decide : 0 < 64), (by decide : 0 < 154)⟩

theorem cpuTurn_deviceInv (d : s.DeviceInv) (h : cpuTurn s = .next t) : t.DeviceInv := by
  rcases cpuTurn_next h with ⟨-, rfl⟩ | ⟨-, h⟩
  · exact d.of_eq rfl rfl rfl
  · exact h.deviceInv d

theorem State.OnlyPpu.deviceInv (h : s.OnlyPpu t) (d : s.DeviceInv) : t.DeviceInv :=
  d.of_eq (by rw [h]) (by rw [h]) (by rw [h])

theorem ppuTurn_deviceInv (d : s.DeviceInv) : (ppuTurn s).DeviceInv := by
  unfold ppuTurn
  split
  · exact d.of_eq rfl rfl rfl
  · exact (ppuStep_onlyPpu s).deviceInv d

theorem step_deviceInv (d : s.DeviceInv) (h : step s = .next t) : t.DeviceInv := by
  rcases step_units h with ⟨-, h⟩ | ⟨-, h⟩ | ⟨n, -, h⟩ | ⟨-, e⟩ | ⟨-, e⟩ | ⟨n, -, e⟩ | hp
  · exact cpuTurn_deviceInv (d.of_eq (t := s.enterCpu) rfl rfl rfl) h
  · exact cpuTurn_deviceInv d h
  · rcases dmaTurn_cases h with rfl | ⟨c, rest, m, hq, h⟩
    · rw [enterPpu_eq]
      exact d.of_eq rfl rfl rfl
    · exact h.deviceInv ⟨fun c hc => d.dma c (hq ▸ List.mem_cons_of_mem _ hc), d.divAcc, d.timaAcc, d.slice⟩
  · exact e ▸ ppuTurn_deviceInv d
  · obtain ⟨-, dma, timer, -⟩ := apuTurn_kept s
    have clock := congrArg Clock.slice (apuTurn_sameSlice s).1
    rw [e]
    exact d.of_eq dma timer clock
  · obtain ⟨divAcc, timaAcc⟩ := timerUnit_deviceInv d
    have only := timerUnit_onlyTimer s
    rw [e]
    refine ⟨?_, divAcc, timaAcc, ?_⟩
    · show ∀ c ∈ (timerUnit s).dmaQueue, _
      rw [only]
      exact d.dma
    · show (timerUnit s).clock.slice < 154
      rw [only]
      exact d.slice
  · have bound : (s.clock.slice + 1) % 154 < 154 := Nat.mod_lt _ (by decide)
    rcases endSlice_cases hp h with rfl | ⟨-, h⟩
    · exact ⟨d.dma, d.divAcc, d.timaAcc, bound⟩
    · refine hostActions_keep (ok := fun _ => True) (fun _ => hostAction_deviceInv) (fun _ _ => trivial) ?_ h
      exact ⟨d.dma, d.divAcc, d.timaAcc, bound⟩

/-- Settles O58: each unit's turn and each of the host's operations keeps the ranges. -/
theorem stepKeepsTheRanges : Obligations.StepKeepsTheRanges := by
  unfold Obligations.StepKeepsTheRanges
  exact fun s t h => ⟨fun k => step_cartInv k h, fun d => step_deviceInv d h⟩

end Sys2Proof.Machine
end

section
/-! SUPPORT. What every step keeps of the CPU's credit and queue (R310, R313, R315): a Command pays at least nothing, and
with the spec's table at most 6. -/

namespace Sys2Proof

theorem Instr.cost_le (i : Instr) : i.cost ≤ 6 := by
  cases i <;> (dsimp only [Instr.cost]; decide)

theorem Instr.takenExtra_le (i : Instr) : i.takenExtra ≤ 6 := by
  cases i <;> (dsimp only [Instr.takenExtra]; decide)

namespace Machine

variable {s t : State} {c : Command}

/-- A Command that is neither a fetched instruction nor a micro-op (R313). -/
def Command.Settled (c : Command) : Prop := (∀ i, c ≠ .exec i) ∧ ∀ n next, c ≠ .after n next

theorem Command.cost_le (h : ∀ n next, c ≠ .after n next) : c.cost ≤ 6 := by
  cases c with
  | after n next => exact absurd rfl (h n next)
  | exec i => exact i.cost_le
  | jumpTo | jumpBy | callTo | ret => exact Instr.takenExtra_le _
  | haltWait => exact Instr.cost_le .halt
  | stopWait => exact Instr.cost_le (.stop 0)

/-! ### The queue and the credit after a turn -/

theorem runCommand_queue (hc : c.Settled) (h : runCommand c s = .next t) : s.QueueFrom t := by
  cases c with
  | after n next => exact absurd rfl (hc.2 n next)
  | exec i => exact absurd rfl (hc.1 i)
  | jumpTo | jumpBy | ret => cases h; exact .inl rfl
  | callTo cc w => exact .inl (by rw [callTo_cpu h])
  | haltWait => exact haltTurn_queue h
  | stopWait => exact stopTurn_queue h

/-- A settled queue, with D4's cut (R313, R315). -/
def State.QueueSettled (s : State) : Prop := ∀ c, s.cpu.queue = some c → c.Settled

theorem State.QueueFrom.settled (h : s.QueueFrom t) (hp : s.params.partition = []) (hq : s.cpu.queue = none) :
    t.QueueSettled := by
  intro c hc
  rcases h with h | ⟨d, h, he, ha⟩
  · rw [h, hq] at hc; cases hc
  · rw [h, State.cut_nil hp] at hc
    cases hc
    exact ⟨he, ha⟩

/-- The decoder never answers the byte 0xCB's own row (R132). -/
theorem State.fetched_ne_prefix (s : State) : s.fetched ≠ .prefix_cb := by
  intro e
  obtain ⟨⟨wf, -⟩, -⟩ := decode3_hasBytes (s.read s.cpu.pc) (s.read (s.cpu.pc + 1)) (s.read (s.cpu.pc + 2))
  rw [← State.fetched, e] at wf
  exact absurd wf (by decide)

theorem takeInterrupt_cpu {i : Nat} (h : s.takeInterrupt i = .next t) :
    t.cpu.credit = s.cpu.credit - 5 ∧ t.cpu.queue = s.cpu.queue := by
  obtain ⟨u, h1, h2⟩ := andThen_next.mp h
  obtain ⟨x, h3, h4⟩ := andThen_next.mp h2
  cases h4
  have cpu := (State.writeByte_cpu h3).trans (State.push16_cpu h1)
  refine ⟨?_, ?_⟩
  · show x.cpu.credit - 5 = _
    rw [cpu]
  · show x.cpu.queue = _
    rw [cpu]

/-- What a turn with credit costs and leaves in the queue. -/
theorem cpuTurn_bounds (hc : 0 < s.cpu.credit) (h : cpuTurn s = .next t) : t.cpu.credit ≤ s.cpu.credit ∧
    (s.params.partition = [] → s.QueueSettled → t.QueueSettled ∧
      (s.params.costs = [] → s.cpu.credit - 6 ≤ t.cpu.credit)) := by
  cases hq : s.cpu.queue with
  | some c =>
    rw [cpuTurn_queued hc hq] at h
    have credit : t.cpu.credit = s.cpu.credit - s.commandCost c := runCommand_settle_credit (s := s.setQueue none) h
    refine ⟨by omega, fun hp settled => ⟨?_, fun hcosts => ?_⟩⟩
    · exact (runCommand_queue (settled c hq) h).settled hp rfl
    · have := Command.cost_le (settled c hq).2
      rw [State.commandCost_nil hcosts hp] at credit
      omega
  | none =>
    rw [cpuTurn_empty hc hq] at h
    split at h
    · obtain ⟨credit, queue⟩ := takeInterrupt_cpu h
      refine ⟨by omega, fun _ _ => ⟨fun c e => ?_, fun _ => by omega⟩⟩
      rw [queue, hq] at e
      cases e
    · have credit : t.cpu.credit = s.cpu.credit - (s.past s.fetched).commandCost s.fetchedCommand :=
        runCommand_settle_credit (s := s.past s.fetched) h
      refine ⟨by omega, fun hp _ => ?_⟩
      have whole : s.fetchedCommand = .exec s.fetched := State.cut_nil hp _
      refine ⟨?_, fun hcosts => ?_⟩
      · rw [fetchTurn, whole] at h
        exact ((exec_effect h).queue s.fetched_ne_prefix).settled hp hq
      · have := s.fetched.cost_le
        rw [whole, State.commandCost_nil (s := s.past s.fetched) hcosts hp] at credit
        change _ = _ - (s.fetched.cost : Int) at credit
        omega

/-! ### The invariant -/

/-- Outside the CPU's turn no credit is left, and the CPU is not touched. -/
theorem State.CpuInv.of_idle (k : s.CpuInv) (idle : s.cpu.credit ≤ 0) (cpu : t.cpu = s.cpu)
    (params : t.params = s.params) : t.CpuInv :=
  ⟨cpu ▸ params ▸ k.queue, cpu ▸ params ▸ k.debt, cpu ▸ k.budget, fun _ => cpu ▸ idle⟩

theorem cpuTurn_cpuInv (k : s.CpuInv) (hp : s.clock.phase = .cpu) (h : cpuTurn s = .next t) : t.CpuInv := by
  by_cases hc : s.cpu.credit ≤ 0
  · rw [cpuTurn_spent hc] at h
    cases h
    exact k.of_idle hc rfl rfl
  · rcases cpuTurn_next h with ⟨hc', -⟩ | ⟨-, moves⟩
    · exact absurd hc' hc
    · obtain ⟨-, clock, -, params, -⟩ := moves.kept
      obtain ⟨less, rest⟩ := cpuTurn_bounds (by omega) h
      refine ⟨fun hn => ?_, fun hn hcosts => ?_, less.trans k.budget, fun hne => absurd (clock ▸ hp) hne⟩
      · rw [params] at hn
        exact (rest hn (k.queue hn)).1
      · rw [params] at hn hcosts
        have := (rest hn (k.queue hn)).2 hcosts
        omega

/-- The call of `CPU.run` adds its budget to a credit that is at most 0 (R310). -/
theorem State.CpuInv.enterCpu (k : s.CpuInv) (hp : s.clock.phase = .cpuCall) : s.enterCpu.CpuInv := by
  have credit : s.enterCpu.cpu.credit = s.cpu.credit + 114 := rfl
  have idle := k.spent (by rw [hp]; nofun)
  refine ⟨k.queue, fun hn hcosts => ?_, by omega, fun hne => absurd rfl hne⟩
  have := k.debt hn hcosts
  omega

theorem dmaTurn_cpu {n : Nat} (h : dmaTurn n s = .next t) : t.cpu = s.cpu := by
  rcases dmaTurn_next h with rfl | ⟨m, c, rest, -, -, h⟩
  · rw [enterPpu_eq]
  · exact (State.writeByte_cpu h).trans rfl

theorem dmaTurn_params {n : Nat} (h : dmaTurn n s = .next t) : t.params = s.params := by
  rcases dmaTurn_cases h with rfl | ⟨c, rest, m, -, moves⟩
  · exact (enterPpu_sameStores s).params
  · obtain ⟨-, -, -, params, -⟩ := moves.kept
    exact params

theorem hostAction_cpuInv {x : HostAction} (k : s.CpuInv ∧ s.cpu.credit ≤ 0) (h : hostAction x s = .next t) :
    t.CpuInv ∧ t.cpu.credit ≤ 0 := by
  obtain ⟨k, idle⟩ := k
  obtain ⟨-, params, -⟩ := hostAction_kept h
  rcases hostAction_next h with ⟨a, v, rfl⟩ | rfl | ⟨u, c, l, rfl, -⟩
  · have cpu := s.quiet_cpu a v
    exact ⟨k.of_idle idle cpu params, cpu ▸ idle⟩
  · exact ⟨k, idle⟩
  · exact ⟨⟨nofun, fun _ _ => (by decide : (-5 : Int) ≤ 0), (by decide : (0 : Int) ≤ 114), fun _ => Int.le_refl 0⟩,
      Int.le_refl 0⟩

/-- Settles O57: a turn of the CPU starts with credit and pays one Command; no other unit touches the CPU. -/
theorem stepKeepsTheCreditBounds : Obligations.StepKeepsTheCreditBounds := by
  unfold Obligations.StepKeepsTheCreditBounds
  intro s t k h
  have idle (hne : s.clock.phase ≠ .cpu) : s.cpu.credit ≤ 0 := k.spent hne
  rcases step_units h with ⟨hp, h⟩ | ⟨hp, h⟩ | ⟨n, hp, h⟩ | ⟨hp, e⟩ | ⟨hp, e⟩ | ⟨n, hp, e⟩ | hp
  · exact cpuTurn_cpuInv (k.enterCpu hp) rfl h
  · exact cpuTurn_cpuInv k hp h
  · exact k.of_idle (idle (by rw [hp]; nofun)) (dmaTurn_cpu h) (dmaTurn_params h)
  · have cpu : (ppuTurn s).cpu = s.cpu := by
      unfold ppuTurn
      split
      · rfl
      · exact (ppuStep_onlyPpu s).cpu
    exact e ▸ k.of_idle (idle (by rw [hp]; nofun)) cpu (ppuTurn_sameStores s).params
  · obtain ⟨-, -, -, -, cpu⟩ := apuTurn_kept s
    rw [e]
    exact k.of_idle (idle (by rw [hp]; nofun)) cpu (apuTurn_sameStores s).params
  · have cpu : ((timerUnit s).setPhase (.timer n)).cpu = s.cpu := by
      show (timerUnit s).cpu = _
      rw [timerUnit_onlyTimer s]
    rw [e]
    exact k.of_idle (idle (by rw [hp]; nofun)) cpu (timerUnit_sameStores s n).params
  · have hi := idle (by rw [hp]; nofun)
    rcases endSlice_cases hp h with rfl | ⟨-, h⟩
    · exact k.of_idle hi rfl rfl
    · refine (hostActions_keep (ok := fun _ => True) (P := fun u => u.CpuInv ∧ u.cpu.credit ≤ 0)
        (fun _ => hostAction_cpuInv) (fun _ _ => trivial) ?_ h).1
      exact ⟨k.of_idle hi rfl rfl, hi⟩

end Machine
end Sys2Proof
end

section
/-! SUPPORT. What every step keeps of the PPU beside its registers (R351, R353, R362, R364, R365, R427): published stores
reach it through `LCDC`, `STAT` and `LYC` alone, and each of its own steps leaves it at the next place of its line. -/

namespace Sys2Proof.Machine

variable {s t u : State} {a : Word} {v : Byte}

/-! ### The registers that show the PPU -/

/-- What `LCDC`, `STAT` and `LYC` show of the PPU (R43, R353, R362). -/
structure State.LcdShows (s : State) : Prop where
  enable : (Memory.read s.mem 0xFF40).getLsbD 7 = s.ppu.lcdOn
  stat : Memory.read s.mem 0xFF41 &&& 0x07 = s.ppu.statBits
  coincidence : s.ppu.coincidence = true → s.ppu.ly = Memory.read s.mem 0xFF45

theorem State.ppuInv_iff (s : State) : s.PpuInv ↔ (s.clock.phase = .ppu → s.ppu.InLine) ∧
    (s.clock.phase ≠ .ppu → s.ppu.BetweenLines) ∧ (s.ppu.lcdOn = false → s.ppu.ly = 0 ∧ s.ppu.mode = .hBlank) ∧
    s.LcdShows := by
  have lcdc : s.read 0xFF40 = Memory.read s.mem 0xFF40 := s.read_FF40
  obtain ⟨-, stat, -, lyc⟩ := s.read_registers
  constructor
  · intro p
    exact ⟨p.inside, p.outside, p.off, lcdc ▸ p.enable, stat ▸ p.stat, lyc ▸ p.coincidence⟩
  · rintro ⟨inside, outside, off, shows⟩
    exact ⟨inside, outside, off, lcdc ▸ shows.enable, stat ▸ shows.stat, lyc ▸ shows.coincidence⟩

/-- `LCDC`, `STAT` and `LYC` have the same bytes. -/
structure State.SameLcd (s t : State) : Prop where
  lcdc : Memory.read t.mem 0xFF40 = Memory.read s.mem 0xFF40
  stat : Memory.read t.mem 0xFF41 = Memory.read s.mem 0xFF41
  lyc : Memory.read t.mem 0xFF45 = Memory.read s.mem 0xFF45

theorem State.SameLcd.of_mem (h : t.mem = s.mem) : s.SameLcd t := by
  constructor <;> rw [h]

theorem State.SameLcd.trans (h : s.SameLcd t) (k : t.SameLcd u) : s.SameLcd u :=
  ⟨k.lcdc.trans h.lcdc, k.stat.trans h.stat, k.lyc.trans h.lyc⟩

theorem State.SameLcd.stored (s : State) {k : Nat} (v : Byte) (h0 : 0xFF40 ≠ k) (h1 : 0xFF41 ≠ k) (h5 : 0xFF45 ≠ k) :
    s.SameLcd (s.stored k v) :=
  ⟨Memory.read_write_other _ _ h0, Memory.read_write_other _ _ h1, Memory.read_write_other _ _ h5⟩

theorem State.LcdShows.of_same (w : s.LcdShows) (h : s.SameLcd t) (hp : t.ppu = s.ppu) : t.LcdShows :=
  ⟨by rw [h.lcdc, hp, w.enable], by rw [h.stat, hp, w.stat], by rw [h.lyc, hp]; exact w.coincidence⟩

/-- `STAT` shows the PPU exactly where setting its lower bits changes nothing. -/
theorem Ppu.stat_self {p : Ppu} {x : Byte} (h : x &&& 0x07 = p.statBits) : x = p.stat x := by
  have all : x = (x &&& 0xF8) ||| (x &&& 0x07) := by
    rw [← BitVec.and_or_distrib_left]
    exact (BitVec.and_allOnes (x := x)).symm
  rw [Ppu.stat, ← h]
  exact all

/-! ### Outside the PPU's turn -/

/-- The PPU's state at rest between its calls. -/
structure State.PpuRests (s : State) : Prop where
  phase : s.clock.phase ≠ .ppu
  between : s.ppu.BetweenLines
  off : s.ppu.lcdOn = false → s.ppu.ly = 0 ∧ s.ppu.mode = .hBlank
  shows : s.LcdShows

theorem State.PpuRests.inv (r : s.PpuRests) : s.PpuInv :=
  s.ppuInv_iff.mpr ⟨fun h => absurd h r.phase, fun _ => r.between, r.off, r.shows⟩

theorem State.PpuInv.rests (p : s.PpuInv) (h : s.clock.phase ≠ .ppu) : s.PpuRests := by
  obtain ⟨-, outside, off, shows⟩ := s.ppuInv_iff.mp p
  exact ⟨h, outside h, off, shows⟩

theorem State.PpuRests.of_same (r : s.PpuRests) (h : s.SameLcd t) (hp : t.ppu = s.ppu) (hc : t.clock.phase ≠ .ppu) :
    t.PpuRests :=
  ⟨hc, hp ▸ r.between, hp ▸ r.off, r.shows.of_same h hp⟩

/-! ### Published stores -/

theorem State.read_quiet_other (s : State) {k : Nat} (hk : 0xD000 ≤ k) (ha : a.toNat ≠ k) (v : Byte) :
    Memory.read (s.quiet a v).mem k = Memory.read s.mem k := by
  show Memory.read (s.placeWrite (s.place a) v).mem k = _
  unfold State.placeWrite
  split
  · split <;> rfl
  · next j hj =>
    unfold State.ramWrite
    split
    · rfl
    · refine Memory.read_write_other _ _ fun e => ha ?_
      exact State.place_ram_own (e ▸ hj) hk
  · rfl

theorem State.quiet_sameLcd (s : State) (h0 : a ≠ 0xFF40) (h1 : a ≠ 0xFF41) (h5 : a ≠ 0xFF45) (v : Byte) :
    s.SameLcd (s.quiet a v) :=
  ⟨s.read_quiet_other (by decide) (fun e => h0 (BitVec.eq_of_toNat_eq e)) v,
    s.read_quiet_other (by decide) (fun e => h1 (BitVec.eq_of_toNat_eq e)) v,
    s.read_quiet_other (by decide) (fun e => h5 (BitVec.eq_of_toNat_eq e)) v⟩

/-- Elsewhere no store reaches the PPU or the registers that show it. -/
theorem State.subscribers_sameLcd (s : State) (h0 : a ≠ 0xFF40) (h1 : a ≠ 0xFF41) (h5 : a ≠ 0xFF45) (v : Byte) :
    s.SameLcd (s.subscribers a v) ∧ (s.subscribers a v).ppu = s.ppu := by
  rcases s.subscribers_cases a v with e | ⟨-, -, e⟩ | ⟨-, e⟩ | ⟨-, e⟩ | ⟨-, -, e⟩ | ⟨h, -⟩ | ⟨h, -⟩ | ⟨h, -⟩
  · rw [e]; exact ⟨.of_mem rfl, rfl⟩
  · rw [e]; exact ⟨.of_mem rfl, rfl⟩
  · rw [e]; exact ⟨.of_mem rfl, rfl⟩
  · rw [e, State.resetDivider]
    have quiet : s.SameLcd (s.quiet 0xFF04 0) := s.quiet_sameLcd (by decide) (by decide) (by decide) 0
    exact ⟨quiet.trans (.of_mem rfl), s.quiet_ppu _ _⟩
  · rw [e]; exact ⟨.of_mem rfl, rfl⟩
  · exact absurd h h0
  · exact absurd h h1
  · exact absurd h h5

theorem State.PpuRests.written_elsewhere (r : s.PpuRests) (h0 : a ≠ 0xFF40) (h1 : a ≠ 0xFF41) (h5 : a ≠ 0xFF45)
    (v : Byte) : (s.written a v).PpuRests := by
  obtain ⟨lcd, ppu⟩ := (s.quiet a v).subscribers_sameLcd h0 h1 h5 v
  refine r.of_same ((s.quiet_sameLcd h0 h1 h5 v).trans lcd) (ppu.trans (s.quiet_ppu a v)) ?_
  rw [State.written_clock]
  exact r.phase

/-- A store to `STAT` leaves the PPU's bits (R364). -/
theorem State.PpuRests.written_stat (r : s.PpuRests) (h : Memory.wf s.mem = true) (v : Byte) :
    (s.written 0xFF41 v).PpuRests := by
  have bytes := State.read_stored_twice h 0xFF41 v (s.ppu.stat v)
  rw [s.written_FF41 v]
  refine ⟨r.phase, r.between, r.off, ?_, ?_, ?_⟩
  · rw [bytes, if_neg (by decide)]; exact r.shows.enable
  · rw [bytes, if_pos rfl]; exact Ppu.stat_lower _ _
  · rw [bytes, if_neg (by decide)]; exact r.shows.coincidence

/-- A store to `LYC` recomputes the coincidence (R362). -/
theorem State.PpuRests.written_lyc (r : s.PpuRests) (h : Memory.wf s.mem = true) (v : Byte) :
    (s.written 0xFF45 v).PpuRests := by
  have h' : Memory.wf (s.stored 0xFF45 v).mem = true := State.stored_wf h _ _
  have byte := State.read_stored h 0xFF45 v
  have lyc : Memory.read (s.stored 0xFF45 v).mem 0xFF45 = v := (byte _).trans (if_pos rfl)
  have only := (s.stored 0xFF45 v).onlyRegisters_coincidenceUpdate
  have ppu := (s.stored 0xFF45 v).coincidenceUpdate_ppu
  rw [lyc] at ppu
  rw [s.written_FF45 v]
  refine ⟨by rw [only.clock]; exact r.phase, ?_, ?_, ?_, ?_, ?_⟩
  · rw [ppu]; exact r.between
  · rw [ppu]; exact r.off
  · rw [only.bytes _ (by decide) (by decide) (by decide), byte, if_neg (by decide), ppu]
    exact r.shows.enable
  · have stat : Memory.read (s.stored 0xFF45 v).mem 0xFF41 = s.ppu.stat (Memory.read s.mem 0xFF41) :=
      (byte _).trans ((if_neg (by decide)).trans (Ppu.stat_self r.shows.stat))
    rw [State.read_coincidenceUpdate h', if_pos rfl, stat, Ppu.stat_coincidence, lyc, ppu]
    exact Ppu.stat_lower _ _
  · rw [only.bytes _ (by decide) (by decide) (by decide), lyc, ppu]
    exact of_decide_eq_true

/-- A store to `LCDC` switches the PPU off, on, or neither (R365). -/
theorem State.PpuRests.written_lcdc (r : s.PpuRests) (h : Memory.wf s.mem = true) (v : Byte) :
    (s.written 0xFF40 v).PpuRests := by
  have h' : Memory.wf (s.stored 0xFF40 v).mem = true := State.stored_wf h _ _
  have byte := State.read_stored h 0xFF40 v
  have lcdc : Memory.read (s.stored 0xFF40 v).mem 0xFF40 = v := (byte _).trans (if_pos rfl)
  have other {k : Nat} (hk : k ≠ 0xFF40) : Memory.read (s.stored 0xFF40 v).mem k = Memory.read s.mem k :=
    (byte k).trans (if_neg hk)
  have stat : Memory.read (s.stored 0xFF40 v).mem 0xFF41 &&& 0x07 = s.ppu.statBits := by
    rw [other (by decide)]; exact r.shows.stat
  have lyc : s.ppu.coincidence = true → s.ppu.ly = Memory.read (s.stored 0xFF40 v).mem 0xFF45 := by
    rw [other (by decide)]; exact r.shows.coincidence
  rw [s.written_FF40 v]
  rcases (s.stored 0xFF40 v).lcdControl_cases v with ⟨-, hv, e⟩ | ⟨hoff, hv, e⟩ | ⟨hv, e⟩
  · change _ = (s.stored 0xFF40 v).lcdOff at e
    have only := (s.stored 0xFF40 v).lcdOff_onlyRegisters
    have ppu := State.lcdOff_ppu h'
    rw [e]
    refine ⟨by rw [only.clock]; exact r.phase, ?_, ?_, ?_, ?_, ?_⟩
    · rw [ppu]; exact ⟨rfl, .inl rfl, .inl ⟨rfl, (by decide : (0 : Byte).toNat < 144)⟩⟩
    · rw [ppu]; exact fun _ => ⟨rfl, rfl⟩
    · rw [only.bytes _ (by decide) (by decide) (by decide), ppu]
      show (Memory.read (s.stored 0xFF40 v).mem 0xFF40).getLsbD 7 = false
      rw [lcdc, hv]
    · rw [State.stat_lcdOff h']; exact Ppu.stat_lower _ _
    · rw [only.bytes _ (by decide) (by decide) (by decide), ppu]
      exact fun e => (of_decide_eq_true e).symm
  · obtain ⟨ly, mode⟩ := r.off hoff
    rw [e]
    refine ⟨r.phase, ⟨rfl, .inl mode, .inl ⟨rfl, ?_⟩⟩, nofun, ?_, stat, lyc⟩
    · show s.ppu.ly.toNat < 144
      rw [ly]; decide
    · show (Memory.read (s.stored 0xFF40 v).mem 0xFF40).getLsbD 7 = true
      rw [lcdc, hv]
  · rw [e]
    refine ⟨r.phase, r.between, r.off, ?_, stat, lyc⟩
    rw [lcdc]; exact hv.symm

/-- Every published store keeps the PPU at rest in step with its registers. -/
theorem State.PpuRests.written (r : s.PpuRests) (m : s.MemoryInv) (a : Word) (v : Byte) : (s.written a v).PpuRests := by
  by_cases h0 : a = 0xFF40
  · subst h0; exact r.written_lcdc m.mem v
  by_cases h1 : a = 0xFF41
  · subst h1; exact r.written_stat m.mem v
  by_cases h5 : a = 0xFF45
  · subst h5; exact r.written_lyc m.mem v
  exact r.written_elsewhere h0 h1 h5 v

theorem State.Moves.ppuRests (h : s.Moves t) (m : s.MemoryInv) (r : s.PpuRests) : t.PpuRests := by
  induction h with
  | refl => exact r
  | cpu _ _ ih => exact ih.of_same (.of_mem rfl) rfl ih.phase
  | store a v k _ ih => exact ih.written (k.memoryInv m) a v

/-! ### The PPU's own steps -/

/-- A step that writes `STAT` for the PPU it leaves shows it (R353). -/
theorem State.LcdShows.of_step (w : s.LcdShows) (lcdc : Memory.read t.mem 0xFF40 = Memory.read s.mem 0xFF40)
    (on : t.ppu.lcdOn = s.ppu.lcdOn) {x : Byte} (stat : Memory.read t.mem 0xFF41 = t.ppu.stat x)
    (coincidence : t.ppu.coincidence = true → t.ppu.ly = Memory.read t.mem 0xFF45) : t.LcdShows :=
  ⟨by rw [lcdc, w.enable, on], by rw [stat]; exact Ppu.stat_lower _ _, coincidence⟩

theorem oamScanStep_shows (h : Memory.wf s.mem = true) (w : s.LcdShows) : (oamScanStep s).LcdShows := by
  refine w.of_step (oamScanStep_bytes s _ (by decide) (by decide)) (by rw [oamScanStep_ppu]) (stat_oamScanStep h) ?_
  rw [oamScanStep_ppu, oamScanStep_bytes s _ (by decide) (by decide)]
  exact w.coincidence

theorem pixelTransferStep_shows (h : Memory.wf s.mem = true) (w : s.LcdShows) : (pixelTransferStep s).LcdShows := by
  refine w.of_step (pixelTransferStep_bytes s (by decide)) (by rw [pixelTransferStep_ppu]) (stat_pixelTransferStep h) ?_
  rw [pixelTransferStep_ppu, pixelTransferStep_bytes s (by decide)]
  exact w.coincidence

theorem hBlankStep_shows (h : Memory.wf s.mem = true) (w : s.LcdShows) : (hBlankStep s).LcdShows := by
  refine w.of_step (hBlankStep_bytes s (by decide) (by decide) (by decide)) (by rw [hBlankStep_ppu])
    (stat_hBlankStep h) ?_
  rw [hBlankStep_ppu, hBlankStep_bytes s (by decide) (by decide) (by decide)]
  exact of_decide_eq_true

theorem vBlankStep_shows (h : Memory.wf s.mem = true) (w : s.LcdShows) : (vBlankStep s).LcdShows := by
  have entered : Memory.read s.vBlankEntered.mem 0xFF41 = s.vBlankEntered.ppu.stat (Memory.read s.mem 0xFF41) := by
    rw [stat_vBlankEntered h, vBlankEntered_ppu]
    by_cases hl : s.ppu.ly = 144
    · rw [if_pos hl, if_pos hl]; rfl
    · rw [if_neg hl, if_neg hl]; exact Ppu.stat_self w.stat
  refine w.of_step (x := Memory.read s.mem 0xFF41) (vBlankStep_bytes s (by decide) (by decide) (by decide))
    (by rw [vBlankStep_ppu]) ?_ ?_
  · rw [stat_vBlankStep h, entered, Ppu.stat_coincidence, vBlankEntered_ppu, vBlankStep_ppu]
    rfl
  · rw [vBlankStep_ppu, vBlankStep_bytes s (by decide) (by decide) (by decide)]
    exact of_decide_eq_true

/-- The line after a V-Blank line, as a number (R358). -/
theorem vBlankNextLine_range (h : 144 ≤ s.ppu.ly.toNat) (h' : s.ppu.ly.toNat ≤ 153) :
    (s.vBlankNextLine = 0 ∧ s.ppu.ly = 153) ∨
      (s.vBlankNextLine ≠ 0 ∧ 144 ≤ s.vBlankNextLine.toNat ∧ s.vBlankNextLine.toNat ≤ 153) := by
  unfold State.vBlankNextLine
  by_cases last : s.ppu.ly = 153
  · exact .inl ⟨if_pos last, last⟩
  · have : s.ppu.ly.toNat ≠ 153 := fun e => last (BitVec.eq_of_toNat_eq e)
    have sum : (s.ppu.ly + 1).toNat = s.ppu.ly.toNat + 1 := toNat_succ (by omega)
    rw [if_neg last]
    refine .inr ⟨fun e => ?_, by omega, by omega⟩
    rw [e] at sum
    have : (0 : Byte).toNat = 0 := rfl
    omega

/-- A step of a call leaves the PPU at the next place of the line (R350, R351). -/
theorem ppuStep_inLine (line : s.ppu.InLine) (hc : 0 < s.ppu.credit) (h : Memory.wf s.mem = true) (w : s.LcdShows) :
    (ppuStep s).ppu.InLine ∧ (ppuStep s).LcdShows := by
  obtain ⟨on, ⟨spent, -⟩ | ⟨credit, mode, ⟨next, ly⟩ | ⟨next, low, high⟩⟩ | ⟨credit, -, next, ly⟩ |
    ⟨credit, -, next, ly⟩⟩ := line
  · omega
  · rw [show ppuStep s = oamScanStep s by rw [ppuStep, next]]
    refine ⟨?_, oamScanStep_shows h w⟩
    rw [oamScanStep_ppu]
    exact ⟨on, .inr (.inr (.inl ⟨(by omega : s.ppu.credit - 40 = 188), rfl, rfl, ly⟩))⟩
  · rw [show ppuStep s = vBlankStep s by rw [ppuStep, next]]
    refine ⟨?_, vBlankStep_shows h w⟩
    rw [vBlankStep_ppu]
    refine ⟨on, .inl ⟨(by omega : s.ppu.credit - 228 = 0), ?_, ?_⟩⟩
    · show (if s.ppu.ly = 144 then PpuMode.vBlank else s.ppu.mode) = _ ∨ _
      split
      · exact .inr rfl
      · exact mode
    · rcases vBlankNextLine_range low high with ⟨zero, -⟩ | ⟨nonzero, low, high⟩
      · exact .inl ⟨if_pos zero, by show s.vBlankNextLine.toNat < 144; rw [zero]; decide⟩
      · exact .inr ⟨if_neg nonzero, low, high⟩
  · rw [show ppuStep s = pixelTransferStep s by rw [ppuStep, next]]
    refine ⟨?_, pixelTransferStep_shows h w⟩
    rw [pixelTransferStep_ppu]
    exact ⟨on, .inr (.inr (.inr ⟨(by omega : s.ppu.credit - 144 = 44), rfl, rfl, ly⟩))⟩
  · rw [show ppuStep s = hBlankStep s by rw [ppuStep, next]]
    refine ⟨?_, hBlankStep_shows h w⟩
    have sum : (s.ppu.ly + 1).toNat = s.ppu.ly.toNat + 1 := toNat_succ (by omega)
    rw [hBlankStep_ppu]
    refine ⟨on, .inl ⟨(by omega : s.ppu.credit - 44 = 0), .inl rfl, ?_⟩⟩
    by_cases visible : (s.ppu.ly + 1).toNat < 144
    · exact .inl ⟨if_pos visible, visible⟩
    · exact .inr ⟨if_neg visible, by show 144 ≤ (s.ppu.ly + 1).toNat; omega,
        by show (s.ppu.ly + 1).toNat ≤ 153; omega⟩

theorem ppuTurn_ppuInv (p : s.PpuInv) (hp : s.clock.phase = .ppu) (h : Memory.wf s.mem = true) :
    (ppuTurn s).PpuInv := by
  obtain ⟨inside, -, off, shows⟩ := s.ppuInv_iff.mp p
  have line := inside hp
  unfold ppuTurn
  split
  · next spent =>
    obtain ⟨-, between | ⟨credit, -⟩ | ⟨credit, -⟩ | ⟨credit, -⟩⟩ := line
    · exact State.PpuRests.inv ⟨nofun, between, off, shows.of_same (.of_mem rfl) rfl⟩
    all_goals omega
  · obtain ⟨line', shows'⟩ := ppuStep_inLine line (by omega) h shows
    have phase := (ppuStep_onlyPpu s).phase hp
    refine (State.ppuInv_iff _).mpr ⟨fun _ => line', fun hne => absurd phase hne, fun hoff => ?_, shows'⟩
    rw [line'.1] at hoff
    cases hoff

/-! ### The other units and the host -/

theorem enterPpu_ppuInv (r : s.PpuRests) : (enterPpu s).PpuInv := by
  obtain ⟨credit, mode, place⟩ := r.between
  rw [enterPpu_eq]
  by_cases on : s.ppu.lcdOn = true
  · rw [if_pos on, if_pos on]
    refine (State.ppuInv_iff _).mpr ⟨fun _ => ⟨on, .inr (.inl ⟨?_, mode, place⟩)⟩, fun hne => absurd rfl hne, r.off,
      ⟨r.shows.enable, r.shows.stat, r.shows.coincidence⟩⟩
    show s.ppu.credit + 228 = 228
    omega
  · rw [if_neg on, if_neg on]
    exact State.PpuRests.inv ⟨nofun, ⟨rfl, mode, place⟩, r.off, ⟨r.shows.enable, r.shows.stat, r.shows.coincidence⟩⟩

theorem timerUnit_sameLcd (h : Memory.wf s.mem = true) : s.SameLcd (timerUnit s) := by
  have byte {k : Nat} (h4 : k ≠ 0xFF04) (h5 : k ≠ 0xFF05) (hF : k ≠ 0xFF0F) :
      Memory.read (timerUnit s).mem k = Memory.read s.mem k := by
    refine (read_timaUnit (divUnit_wf h) k).trans ?_
    rw [if_neg fun e => h5 e.1, if_neg fun e => hF e.1, read_divUnit h, if_neg fun e => h4 e.1]
  exact ⟨byte (by decide) (by decide) (by decide), byte (by decide) (by decide) (by decide),
    byte (by decide) (by decide) (by decide)⟩

/-- After a reset the PPU rests and every register that shows it is 0 (R50). -/
theorem State.resetWith_ppuRests (s : State) (c : Option Cartridge) : (s.resetWith c).PpuRests :=
  ⟨nofun, ⟨rfl, .inl rfl, .inl ⟨rfl, (by decide : (0 : Byte).toNat < 144)⟩⟩, fun _ => ⟨rfl, rfl⟩,
    (by decide : (0 : Byte).getLsbD 7 = false), (by decide : (0 : Byte) &&& 0x07 = (bit8 false <<< 2) ||| 0), nofun⟩

theorem hostAction_ppuRests {x : HostAction} (r : s.PpuRests) (h : hostAction x s = .next t) : t.PpuRests := by
  cases x with
  | joypad v =>
    rw [hostAction_joypad] at h
    cases h
    exact r.of_same (State.SameLcd.stored s v (by decide) (by decide) (by decide)) rfl r.phase
  | joypadRequest =>
    rw [hostAction_joypadRequest] at h
    cases h
    exact r.of_same (State.SameLcd.stored s _ (by decide) (by decide) (by decide)) rfl r.phase
  | insert len rom =>
    obtain ⟨c, l, -, rfl⟩ := insertRom_next h
    have rests := s.eject.resetWith_ppuRests (some c)
    exact rests.of_same (.of_mem rfl) rfl rests.phase
  | reinsert =>
    cases h
    exact s.resetWith_ppuRests _
  | putBack k =>
    cases h
    cases e : s.shelf[k]? with
    | none => rw [State.putBack_none e]; exact r
    | some c => rw [State.putBack_some e]; exact State.resetWith_ppuRests _ _

theorem cpuTurn_ppuRests (r : s.PpuRests) (m : s.MemoryInv) (h : cpuTurn s = .next t) : t.PpuRests := by
  rcases cpuTurn_next h with ⟨-, rfl⟩ | ⟨-, h⟩
  · exact r.of_same (.of_mem rfl) rfl nofun
  · exact h.ppuRests m r

/-- Settles O59: outside its turn only stores reach the PPU, inside its turn each step leaves the next place. -/
theorem stepKeepsThePpuInStep : Obligations.StepKeepsThePpuInStep := by
  unfold Obligations.StepKeepsThePpuInStep
  intro s t m p h
  rcases step_units h with ⟨hp, h⟩ | ⟨hp, h⟩ | ⟨n, hp, h⟩ | ⟨hp, e⟩ | ⟨hp, e⟩ | ⟨n, hp, e⟩ | hp
  · have r := (p.rests (by rw [hp]; nofun)).of_same (t := s.enterCpu) (.of_mem rfl) rfl nofun
    exact (cpuTurn_ppuRests r (m.of_sameStores (enterCpu_sameStores s) m.mem) h).inv
  · exact (cpuTurn_ppuRests (p.rests (by rw [hp]; nofun)) m h).inv
  · have r := p.rests (by rw [hp]; nofun)
    rcases dmaTurn_cases h with rfl | ⟨c, rest, k, -, moves⟩
    · exact enterPpu_ppuInv r
    · exact (moves.ppuRests (m.of_sameStores ⟨rfl, rfl, rfl, rfl, rfl⟩ m.mem) (r.of_same (.of_mem rfl) rfl nofun)).inv
  · rw [e]
    exact ppuTurn_ppuInv p hp m.mem
  · obtain ⟨mem, -, -, ppu, -⟩ := apuTurn_kept s
    have phase : (apuTurn s).clock.phase ≠ .ppu := by
      rw [(apuTurn_sameSlice s).1]
      nofun
    rw [e]
    exact ((p.rests (by rw [hp]; nofun)).of_same (.of_mem mem) ppu phase).inv
  · have ppu : ((timerUnit s).setPhase (.timer n)).ppu = s.ppu := by
      show (timerUnit s).ppu = _
      rw [timerUnit_onlyTimer s]
    have lcd : s.SameLcd ((timerUnit s).setPhase (.timer n)) := (timerUnit_sameLcd m.mem).trans (.of_mem rfl)
    rw [e]
    exact ((p.rests (by rw [hp]; nofun)).of_same lcd ppu nofun).inv
  · have r := p.rests (by rw [hp]; nofun)
    rcases endSlice_cases hp h with e | ⟨-, h⟩
    · have rests : t.PpuRests := by
        rw [e]
        exact r.of_same (.of_mem rfl) rfl nofun
      exact rests.inv
    · refine (hostActions_keep (ok := fun _ => True) (fun _ => hostAction_ppuRests) (fun _ _ => trivial) ?_ h).inv
      exact r.of_same (.of_mem rfl) rfl nofun

end Sys2Proof.Machine
end

section
/-! SUPPORT. The state after a reset (R50, R402) and the host's operations with their resets (R85, R93, R103, R330, R400,
R401, R425). -/

namespace Sys2Proof.Machine

variable {s t u : State} {a : Word} {c : Cartridge}

/-! ### The reset state -/

theorem State.read_bios (hb : s.biosMapped = true) (ha : a.toNat ≤ 0xFF) :
    s.read a = Memory.biosRead s.bios a.toNat := by
  rw [State.read, State.place_bios hb ha]
  rfl

/-- Where all memory is empty, a byte of it is 0. -/
theorem State.ramRead_empty (hm : s.mem = []) (hs : s.sound = Vector.replicate 48 0) (k : Nat) : s.ramRead k = 0 := by
  unfold State.ramRead
  split
  · rw [hs]; exact replicate_getD _ _ _
  · rw [hm]; rfl

/-- Settles O53: every part is its reset value, and an address outside the BIOS names an empty byte. -/
theorem resetState : Obligations.ResetState := by
  unfold Obligations.ResetState
  refine ⟨fun r => by cases r <;> rfl, rfl, rfl, rfl, rfl, rfl, rfl, rfl, rfl, rfl, rfl, rfl, rfl, rfl, rfl, rfl, rfl,
    rfl, fun a => ?_⟩
  by_cases ha : a.toNat ≤ 0xFF
  · rw [if_pos ha, State.read_bios rfl ha]
    rfl
  · rw [if_neg ha, State.read, State.place_ram (s := State.reset) (fun e => ha e.2) nofun]
    exact State.ramRead_empty rfl rfl _

/-- Settles O55: nothing is stored, owed or queued. -/
theorem resetMeetsTheInvariants : Obligations.ResetMeetsTheInvariants := by
  unfold Obligations.ResetMeetsTheInvariants
  have rests : State.reset.PpuRests := State.resetWith_ppuRests State.reset none
  refine ⟨⟨rfl, rfl, nofun, nofun, nofun⟩, ⟨nofun, ?_, ?_, ?_⟩, ?_, ⟨nofun, ?_, ?_, ?_⟩, rests.inv⟩
  · exact fun _ _ => (by decide : (-5 : Int) ≤ 0)
  · exact (by decide : (0 : Int) ≤ 114)
  · exact fun _ => Int.le_refl 0
  · rintro c (h | h) <;> cases h
  · exact Nat.zero_le 15
  · exact (by decide : 0 < 64)
  · exact (by decide : 0 < 154)

/-! ### Inserting -/

/-- `t` is the machine reset from `s`: every unit fresh, the BIOS over empty memory (R400, R402). -/
def State.FreshAfter (s t : State) : Prop :=
  t.cpu = State.reset.cpu ∧ t.biosMapped = true ∧ t.dmaQueue = [] ∧ t.timer = State.reset.timer ∧
  t.clock = State.reset.clock ∧ t.ppu = { State.reset.ppu with framesReady := s.ppu.framesReady } ∧
  (∀ a : Word, a.toNat ≤ 0xFF → t.read a = Memory.biosRead s.bios a.toNat) ∧
  ∀ (a : Word) (k : Nat), t.place a = .ram k → t.read a = 0

theorem State.freshAfter_resetWith (hb : u.bios = s.bios) (hf : u.ppu.framesReady = s.ppu.framesReady)
    (c : Option Cartridge) (l : List Byte) : s.FreshAfter { u.resetWith c with mbcReports := l } := by
  refine ⟨rfl, rfl, rfl, rfl, rfl, ?_, fun a ha => ?_, fun a k hk => ?_⟩
  · rw [← hf]; rfl
  · rw [State.read_bios rfl ha, ← hb]
    rfl
  · rw [State.read, hk]
    exact State.ramRead_empty rfl rfl k

/-- The kind by the type byte, in numbers (R85, R93). -/
def kindOf (type : Nat) : CartKind := if type = 0 then .mbc0 else if type ≤ 3 then .mbc1 else .inert

theorem kindOf_inert (type : Nat) : kindOf type = .inert ↔ 3 < type := by
  unfold kindOf
  by_cases h0 : type = 0
  · rw [if_pos h0]; exact ⟨nofun, fun h => by omega⟩
  · rw [if_neg h0]
    by_cases h3 : type ≤ 3
    · rw [if_pos h3]; exact ⟨nofun, fun h => by omega⟩
    · rw [if_neg h3]; exact ⟨fun _ => by omega, fun _ => rfl⟩

theorem kindOf_mbc1 (type : Nat) : (kindOf type == .mbc1) = !decide (type = 0 ∨ 3 < type) := by
  unfold kindOf
  by_cases h0 : type = 0
  · rw [if_pos h0, decide_eq_true (.inl h0)]; rfl
  · rw [if_neg h0]
    by_cases h3 : type ≤ 3
    · rw [if_pos h3, decide_eq_false (by omega)]; rfl
    · rw [if_neg h3, decide_eq_true (.inr (by omega))]; rfl

/-- The images that are taken (R85, D35). -/
def goodImage (len : Nat) (rom : List Host.Cell) : Bool :=
  decide (0x8000 ≤ len) && (decide ((Memory.read rom 0x0147).toNat = 0 ∨ 3 < (Memory.read rom 0x0147).toNat) ||
    decide (len % 0x4000 = 0))

/-- The Cartridge of an image as it is built (R85, R92). -/
def Cartridge.fresh (len : Nat) (rom : List Host.Cell) : Cartridge :=
  { kind := kindOf (Memory.read rom 0x0147).toNat, romLength := len, rom := rom, ram := [], ramEnable := false,
    romLow := 1, hi2 := 0, ramBank := 0, mode := false }

theorem Cartridge.build_eq (len : Nat) (rom : List Host.Cell) :
    Cartridge.build len rom = if goodImage len rom = true then some (Cartridge.fresh len rom) else none := by
  have kind : (if Memory.read rom 0x0147 = 0 then CartKind.mbc0
      else if (Memory.read rom 0x0147).toNat ≤ 3 then .mbc1 else .inert) = kindOf (Memory.read rom 0x0147).toNat :=
    if_congr ⟨fun e => congrArg BitVec.toNat e, fun e => BitVec.eq_of_toNat_eq e⟩ rfl rfl
  have refused : (decide (len < 0x8000) || (kindOf (Memory.read rom 0x0147).toNat == .mbc1 &&
      decide (len % 0x4000 ≠ 0))) = !goodImage len rom := by
    have short : decide (len < 0x8000) = !decide (0x8000 ≤ len) := by
      rw [← decide_not]
      exact decide_eq_decide.mpr (by omega)
    have uneven : decide (len % 0x4000 ≠ 0) = !decide (len % 0x4000 = 0) := decide_not
    rw [kindOf_mbc1, goodImage, short, uneven, Bool.not_and, Bool.not_or]
  unfold Cartridge.build
  dsimp only
  rw [kind, refused]
  cases goodImage len rom <;> rfl

/-- A taken image is built and swapped in, and an unsupported type reported (R93, R103). -/
theorem insertRom_good {len : Nat} {rom : List Host.Cell} (h : goodImage len rom = true) : insertRom len rom s = .next
    { s.swapIn (Cartridge.fresh len rom) with mbcReports :=
        if 3 < (Memory.read rom 0x0147).toNat then s.mbcReports ++ [Memory.read rom 0x0147] else s.mbcReports } := by
  unfold insertRom
  rw [Cartridge.build_eq, if_pos h]
  dsimp only
  have inert : (Cartridge.fresh len rom).kind = .inert ↔ 3 < (Memory.read rom 0x0147).toNat := kindOf_inert _
  by_cases unknown : 3 < (Memory.read rom 0x0147).toNat
  · rw [if_pos (inert.mpr unknown), if_pos unknown]
    rfl
  · rw [if_neg (mt inert.mp unknown), if_neg unknown]
    rfl

theorem insertRom_bad {len : Nat} {rom : List Host.Cell} (h : goodImage len rom = false) :
    insertRom len rom s = .refused (.cartridgeRefused len) := by
  unfold insertRom
  rw [Cartridge.build_eq, if_neg (by rw [h]; decide)]

/-- A Cartridge put back after one was taken out is in the slot again (R401). -/
theorem putBack_last (h : t.shelf = s.shelf ++ [c]) : ∃ (k : Nat) (u : State),
    hostAction (.putBack k) t = .next u ∧ u.cart = some c := by
  refine ⟨s.shelf.length, _, rfl, ?_⟩
  rw [State.putBack_some (c := c) (by rw [h, List.getElem?_concat_length])]
  rfl

/-! ### The ways out of a fault -/

theorem State.faulted_other {x : Fault} (h : ∀ d, x ≠ .bankOutOfRange d) : s.faulted x = s := by
  cases x with
  | bankOutOfRange d => exact absurd rfl (h d)
  | _ => rfl

theorem recover_reinsert {x : Fault} (h : (s.faulted x).cart = some c) :
    recover s x .reinsert = .next ((s.faulted x).resetWith (some c)) := by
  rw [recover, if_pos]
  · rw [← h]; rfl
  · rw [State.resetBy, h]; rfl

theorem recover_insert (x : Fault) (len : Nat) (rom : List Host.Cell) :
    recover s x (.insert len rom) = hostAction (.insert len rom) (s.faulted x) := rfl

theorem State.faulted_shelf (s : State) (x : Fault) : (s.faulted x).shelf = s.shelf := by cases x <;> rfl

theorem State.faulted_bios (s : State) (x : Fault) : (s.faulted x).bios = s.bios := by cases x <;> rfl

theorem State.faulted_ppu (s : State) (x : Fault) : (s.faulted x).ppu = s.ppu := by cases x <;> rfl

theorem recover_putBack {k : Nat} (h : s.shelf[k]? = some c) (x : Fault) :
    recover s x (.putBack k) = .next ((s.faulted x).putBack k) := by
  obtain ⟨hk, -⟩ := List.getElem?_eq_some_iff.mp h
  rw [recover, if_pos]
  · rfl
  · rw [State.resetBy, State.faulted_shelf]
    exact decide_eq_true hk

theorem State.freshAfter_putBack {k : Nat} (h : u.shelf[k]? = some c) (hb : u.bios = s.bios) (hp : u.ppu = s.ppu) :
    s.FreshAfter (u.putBack k) ∧ (u.putBack k).cart = some c := by
  rw [State.putBack_some h]
  exact ⟨State.freshAfter_resetWith (u := ({ u with shelf := u.shelf.eraseIdx k } : State).eject) hb
    (congrArg Ppu.framesReady hp) (some c) _, rfl⟩

/-- Settles O54: an image is taken or refused; each insertion is one reset with its Cartridge; the joypad's operations
write one register. -/
theorem insertCartridge : Obligations.InsertCartridge := by
  unfold Obligations.InsertCartridge
  intro s fresh
  refine ⟨fun len rom => ⟨fun bad => insertRom_bad bad, fun good => ⟨_, insertRom_good good, ?_, rfl, rfl, rfl⟩⟩,
    ⟨_, rfl, State.freshAfter_resetWith rfl rfl s.cart _, rfl, rfl, rfl⟩,
    fun k hk => congrArg Host.Outcome.next (State.putBack_none hk), fun k c hk => ⟨_, rfl, ?_, ?_, ?_, ?_, fun x => ?_⟩,
    fun len rom c t hc h => ?_, fun c => ⟨⟨_, recover_reinsert rfl, ?_, rfl, rfl⟩, fun len rom => rfl⟩,
    fun x hx => ⟨fun c hc => ?_, fun len rom => ?_⟩, fun x v => ⟨rfl, rfl⟩, hostAction_joypad,
    hostAction_joypadRequest, rfl, fun x xs t h => ?_⟩
  · exact State.freshAfter_resetWith (u := s.eject) rfl rfl _ _
  · exact (State.freshAfter_putBack hk rfl rfl).1
  · exact (State.freshAfter_putBack (s := s) hk rfl rfl).2
  · rw [State.putBack_some hk]; rfl
  · rw [State.putBack_some hk]; rfl
  · have found : (s.faulted x).shelf[k]? = some c := s.faulted_shelf x ▸ hk
    exact ⟨_, recover_putBack hk x, State.freshAfter_putBack found (s.faulted_bios x) (s.faulted_ppu x)⟩
  · obtain ⟨d, l, -, rfl⟩ := insertRom_next h
    refine putBack_last (s := s) ?_
    show s.shelf ++ s.cart.toList = _
    rw [hc]
    rfl
  · exact State.freshAfter_resetWith (u := { s with cart := some c }) rfl rfl _ _
  · have same := s.faulted_other hx
    refine ⟨_, recover_reinsert (by rw [same]; exact hc), ?_, rfl, s.faulted_shelf x⟩
    exact State.freshAfter_resetWith (u := s.faulted x) (s.faulted_bios x) (congrArg Ppu.framesReady (s.faulted_ppu x)) _ _
  · rw [recover_insert, State.faulted_other hx]
  · rw [hostActions, h]
    rfl

end Sys2Proof.Machine
end
